-- ==== Sys2Proof/Word.lean ====
section
/-! DEFINITION. The words of the V364 (bytes, device times, serials, digests), the names of lanes, links, banks and points,
and the two small containers that hold one thing per lane or per driver link. -/

namespace Sys2Proof

/-- A character of a lane line or a byte of a driver frame (R180, R183). -/
abbrev Byte := BitVec 8

/-- A run of 8-bit characters (R180). -/
abbrev Text := List Byte

/-- Device time: a 32-bit count of milliseconds that wraps to 0 (R186). -/
abbrev Time := BitVec 32

/-- A fault serial, 1 to 4294967295 (R142). -/
abbrev Serial := BitVec 32

/-- The configuration digest, a CRC-32 (R132). -/
abbrev Digest := BitVec 32

/-- A bank number 0 to 7 (R84). -/
abbrev BankNo := Fin 8

/-- A slot 0 to 7 of a bank (R1). -/
abbrev SlotNo := Fin 8

/-- A point number 0 to 63 (R1). -/
abbrev PointNo := Fin 64

/-- The three lanes; their priority order is A, B, C (section 2.1). -/
inductive Lane where
  | a | b | c
  deriving DecidableEq, Repr

/-- The lanes in the priority order A, B, C. -/
def Lane.all : List Lane := [.a, .b, .c]

/-- The two driver links (section 2.1). -/
inductive LinkNo where
  | one | two
  deriving DecidableEq, Repr

/-- The bank's other driver link (R85). -/
def LinkNo.other : LinkNo → LinkNo
  | .one => .two
  | .two => .one

/-- A character or byte as received, and whether its stop bit was found low (R156, R183). -/
structure RxByte where
  value : Byte
  damaged : Bool
  deriving DecidableEq, Repr

/-- One thing for each lane. -/
@[ext]
structure PerLane (α : Type) where
  a : α
  b : α
  c : α
  deriving DecidableEq, Repr

namespace PerLane
variable {α : Type}

def get (x : PerLane α) : Lane → α
  | .a => x.a
  | .b => x.b
  | .c => x.c

def set (x : PerLane α) (l : Lane) (v : α) : PerLane α :=
  match l with
  | .a => { x with a := v }
  | .b => { x with b := v }
  | .c => { x with c := v }

def ofFn (f : Lane → α) : PerLane α := ⟨f .a, f .b, f .c⟩

end PerLane

/-- A set of lanes, each at most once (section 2.6). -/
abbrev LaneSet := PerLane Bool

/-- The members of a lane set in the order A, B, C. -/
def LaneSet.members (x : LaneSet) : List Lane := Lane.all.filter x.get

/-- One thing for each driver link. -/
@[ext]
structure PerLink (α : Type) where
  one : α
  two : α
  deriving DecidableEq, Repr

namespace PerLink
variable {α : Type}

def get (x : PerLink α) : LinkNo → α
  | .one => x.one
  | .two => x.two

def set (x : PerLink α) (k : LinkNo) (v : α) : PerLink α :=
  match k with
  | .one => { x with one := v }
  | .two => { x with two := v }

def ofFn (f : LinkNo → α) : PerLink α := ⟨f .one, f .two⟩

end PerLink

end Sys2Proof
end

