-- ==== Sys2Proof/Config.lean ====
section
/-! DEFINITION. The fixed sizes of the part. The spec leaves no value of the machine open, so there is no free value here. -/

namespace Sys2Proof.Config

/-- The fault ring holds at most 64 records (R142). -/
def ringSize : Nat := 64

/-- The receive queue of a Lane Port holds at most two lines (R159). -/
def queueSize : Nat := 2

/-- A request line is at most 240 characters long, marker, CR and LF counted (R157). -/
def maxLine : Nat := 240

/-- A STAGE carries 1 to 12 pairs (R21). -/
def maxPairs : Nat := 12

/-- A FAULTS reply holds at most 3 records (R149). -/
def maxFaults : Nat := 3

/-- A gap count is held at most at 255 (R152). -/
def maxGap : Nat := 255

/-- A split count is held at most at 65535 (R10). -/
def maxSplits : Nat := 65535

/-- Round numbers run from 1 to 65535 (R18). -/
def maxRound : Nat := 65535

/-- The power confirm delay, 0.5 ms, in microseconds (section 4.1). -/
def confirmDelay : Nat := 500

/-- REPLYTIME is given in tenths of a millisecond: microseconds per unit (R130). -/
def replyUnit : Nat := 100

end Sys2Proof.Config
end

