-- ==== Sys2Proof/Syntax.lean ====
section
/-! DEFINITION. The commands of the V364, one constructor per row of spec/opcode_table.json.

Every command is one event of the part. `dt` is the time in microseconds that has passed since the event before it.
A request is a request line of lane `l` that has passed the line checks of R158: `seq` is its sequence number and `fields`
are the tokens after the verb, as received. The line's characters are those `Machine.requestText` gives it; a line
spelled otherwise (lowercase hexadecimal, several spaces) comes as `lineEnd` with all its characters. -/

namespace Sys2Proof

inductive Instr where
  /-- POINT: define a point (R4 to R6). -/
  | point (dt : Nat) (l : Lane) (seq : Byte) (fields : List Text)
  /-- DROP: undefine a point (R7). -/
  | drop (dt : Nat) (l : Lane) (seq : Byte) (fields : List Text)
  /-- BANK: define a bank (R86, R87). -/
  | bank (dt : Nat) (l : Lane) (seq : Byte) (fields : List Text)
  /-- BANK_REMOVAL: the line `BANK b NONE`, b as received (R86, R88). -/
  | bankRemoval (dt : Nat) (l : Lane) (seq : Byte) (b : Text)
  /-- OPEN: take the configuration session (R126). -/
  | openSession (dt : Nat) (l : Lane) (seq : Byte) (fields : List Text)
  /-- CLOSE: give the session up (R127). -/
  | closeSession (dt : Nat) (l : Lane) (seq : Byte) (fields : List Text)
  /-- SET: change a setting (R131). -/
  | setSetting (dt : Nat) (l : Lane) (seq : Byte) (fields : List Text)
  /-- START (R133, R134). -/
  | start (dt : Nat) (l : Lane) (seq : Byte) (fields : List Text)
  /-- RESUME (R137, R138). -/
  | resume (dt : Nat) (l : Lane) (seq : Byte) (fields : List Text)
  /-- RESTART (R139, R140). -/
  | restart (dt : Nat) (l : Lane) (seq : Byte) (fields : List Text)
  /-- STAGE (R21 to R23). -/
  | stage (dt : Nat) (l : Lane) (seq : Byte) (fields : List Text)
  /-- SEAL (R24, R25). -/
  | seal (dt : Nat) (l : Lane) (seq : Byte) (fields : List Text)
  /-- JOIN (R46, R47). -/
  | join (dt : Nat) (l : Lane) (seq : Byte) (fields : List Text)
  /-- LEAVE (R60). -/
  | leave (dt : Nat) (l : Lane) (seq : Byte) (fields : List Text)
  /-- HANDOVER (R61, R62). -/
  | handover (dt : Nat) (l : Lane) (seq : Byte) (fields : List Text)
  /-- RETURN (R78, R79). -/
  | returnLane (dt : Nat) (l : Lane) (seq : Byte) (fields : List Text)
  /-- STATUS (R171). -/
  | status (dt : Nat) (l : Lane) (seq : Byte) (fields : List Text)
  /-- LANES (R173). -/
  | lanes (dt : Nat) (l : Lane) (seq : Byte) (fields : List Text)
  /-- POINTS (R174). -/
  | points (dt : Nat) (l : Lane) (seq : Byte) (fields : List Text)
  /-- BANKS (R176). -/
  | banks (dt : Nat) (l : Lane) (seq : Byte) (fields : List Text)
  /-- ROUND (R177). -/
  | round (dt : Nat) (l : Lane) (seq : Byte) (fields : List Text)
  /-- DIGEST (R178). -/
  | digest (dt : Nat) (l : Lane) (seq : Byte) (fields : List Text)
  /-- FAULTS (R149). -/
  | faults (dt : Nat) (l : Lane) (seq : Byte) (fields : List Text)
  /-- ACK (R150). -/
  | ack (dt : Nat) (l : Lane) (seq : Byte) (fields : List Text)
  /-- UNKNOWN_VERB: a checked line whose verb the part does not know (R164). -/
  | unknownVerb (dt : Nat) (l : Lane) (seq : Byte) (verb : Text) (fields : List Text)
  /-- LINE_END: the LF that ends a line is received; `chars` are the characters received since the line began or since those
  the port already holds, CR and LF among them (R158). -/
  | lineEnd (dt : Nat) (l : Lane) (chars : List RxByte)
  /-- LINE_OVER_LENGTH: the 240th character of a line is not its LF (R158). -/
  | lineOverLength (dt : Nat) (l : Lane)
  /-- REPLY_END: the last character of the lane's reply has been sent (R159, R167). -/
  | replyEnd (dt : Nat) (l : Lane)
  /-- PG_FALL: a falling edge on the lane's power-good input (R69). -/
  | pgFall (dt : Nat) (l : Lane)
  /-- PG_RISE: a rising edge on the lane's power-good input (R70). -/
  | pgRise (dt : Nat) (l : Lane)
  /-- POWER_ON_RESET: the supply comes up (R141). -/
  | powerOnReset
  /-- RESET_N_LOW: a low level on RESET_N takes effect (R141). -/
  | resetNLow
  /-- RESET_END: the reset ends, with the levels the three PG inputs present (true = high) (R83, R185). -/
  | resetEnd (pg : PerLane Bool)
  /-- ROUND_TIMER_EXPIRY (R29). -/
  | roundTimerExpiry (dt : Nat)
  /-- QUIET_TIMER_EXPIRY (R59). -/
  | quietTimerExpiry (dt : Nat) (l : Lane)
  /-- CONFIRM_TIMER_EXPIRY (R71). -/
  | confirmTimerExpiry (dt : Nat) (l : Lane)
  /-- HOLD_EXPIRY (R80). -/
  | holdExpiry (dt : Nat) (l : Lane)
  /-- SUSPENDED_UNTIL_REACHED (R57). -/
  | suspendedUntilReached (dt : Nat) (l : Lane)
  /-- SESSION_IDLE_EXPIRY (R128). -/
  | sessionIdleExpiry (dt : Nat)
  /-- WARMING_SETTLE_DEADLINE (R91). -/
  | warmingSettleDeadline (dt : Nat) (b : BankNo)
  /-- SWITCHING_SETTLE_DEADLINE (R113). -/
  | switchingSettleDeadline (dt : Nat) (b : BankNo)
  /-- SURVEY_DUE (R95). -/
  | surveyDue (dt : Nat) (b : BankNo)
  /-- DRIVER_FRAME_SENT: the last byte of the part's frame ends (R92). -/
  | driverFrameSent (dt : Nat) (k : LinkNo)
  /-- REPLY_TIMER_EXPIRY; `midFrame` says whether the bytes of a frame are still arriving at that moment (R92). -/
  | replyTimerExpiry (dt : Nat) (k : LinkNo) (midFrame : Bool)
  /-- DRIVER_FRAME_RECEIVED: a frame is complete on the link; `bytes` are its bytes (R92, R93, R183). -/
  | driverFrameReceived (dt : Nat) (k : LinkNo) (bytes : List RxByte)
  deriving DecidableEq, Repr

end Sys2Proof
end

