-- ==== Sys2Proof/Decode.lean ====
section
/-! DEFINITION. The commands a word spells by the bits of spec/opcode_table.json. No row of that table gives bits, so no word
spells a command. -/

/-- The command that a word spells by the table's bits: none, since no row gives any. -/
def Sys2Proof.decodeTableWord (_nbits _w : Nat) : Option Sys2Proof.Instr := none
end

