-- ==== Sys2Proof/Machine/Operands.lean ====
section
/-! DEFINITION. Which bank and slot a point has, and the operand forms: how the characters of a request line are read as sequence
number, verb and fields, how each field encoding of R180 is read, and how numbers, digests and lines are spelled. -/

namespace Sys2Proof

/-! ## Points, banks and slots -/

/-- The bank of a point: p divided by 8 (R1). -/
def bankOf (p : PointNo) : BankNo := ⟨p.val / 8, by omega⟩

/-- The slot of a point in its bank: p mod 8 (R1). -/
def slotOf (p : PointNo) : SlotNo := ⟨p.val % 8, by omega⟩

/-- The point in a slot of a bank (R1). -/
def pointAt (b : BankNo) (k : SlotNo) : PointNo := ⟨8 * b.val + k.val, by omega⟩

/-- The difference of two values without sign: what a tolerance bounds (R2). -/
def apart (x y : Nat) : Nat := (x - y) + (y - x)

end Sys2Proof

namespace Sys2Proof.Machine

/-! ## Characters -/

/-- The ASCII characters of a word (R180). -/
def asc (s : String) : Text := s.toList.map (fun c => BitVec.ofNat 8 c.toNat)

def charLF : Byte := 10#8
def charCR : Byte := 13#8
def charSpace : Byte := 32#8
def charStar : Byte := 42#8
def charColon : Byte := 58#8
def charEquals : Byte := 61#8

/-- A printable character other than the space: values 33 to 126 (R180). -/
def printable (c : Byte) : Bool := 33 ≤ c.toNat && c.toNat ≤ 126

/-- The characters a line may hold between the marker and the CR (R157, R180). -/
def lineChar (c : Byte) : Bool := c == charSpace || printable c

/-- The single hyphen that stands for an absent field (R180). -/
def hyphen : Text := asc "-"

/-! ## Numbers -/

def isDigit (c : Byte) : Bool := 48 ≤ c.toNat && c.toNat ≤ 57

/-- The number a run of decimal digits spells. -/
def digitsValue (t : Text) : Nat := t.foldl (fun n c => 10 * n + (c.toNat - 48)) 0

/-- A field of 1 to `most` decimal digits, leading zeros allowed (R180). -/
def readDecimal (most : Nat) (t : Text) : Option Nat :=
  if 1 ≤ t.length ∧ t.length ≤ most ∧ t.all isDigit = true then some (digitsValue t) else none

/-- A decimal field of every request but ACK: 1 to 5 digits (R180). -/
def readNumber (t : Text) : Option Nat := readDecimal 5 t

/-- The decimal digits of `n`, with `fuel` more than the number of digits. -/
def decimalDigits : Nat → Nat → Text
  | 0, _ => []
  | fuel + 1, n =>
    if n < 10 then [BitVec.ofNat 8 (48 + n)]
    else decimalDigits fuel (n / 10) ++ [BitVec.ofNat 8 (48 + n % 10)]

/-- A decimal number as a reply spells it: no leading zeros, 0 as a single digit (R180). -/
def dec (n : Nat) : Text := decimalDigits (n + 1) n

/-- A hexadecimal digit as a reply spells it, in capitals (R180). -/
def hexDigit (n : Nat) : Byte := BitVec.ofNat 8 (if n < 10 then 48 + n else 55 + n)

/-- The `k` lowest hexadecimal digits of `n`, most significant first. -/
def hexDigits : Nat → Nat → Text
  | 0, _ => []
  | k + 1, n => hexDigits k (n / 16) ++ [hexDigit (n % 16)]

/-- The value of a hexadecimal digit in either case (R180). -/
def hexValue (c : Byte) : Option Nat :=
  let n := c.toNat
  if 48 ≤ n ∧ n ≤ 57 then some (n - 48)
  else if 65 ≤ n ∧ n ≤ 70 then some (n - 55)
  else if 97 ≤ n ∧ n ≤ 102 then some (n - 87)
  else none

/-- The number a run of hexadecimal digits spells, most significant first; none if some character is no such digit. -/
def hexRun (t : Text) : Option Nat :=
  t.foldl (fun acc c => match acc, hexValue c with
    | some n, some d => some (16 * n + d)
    | _, _ => none) (some 0)

/-- Exactly `k` hexadecimal digits in either case (R180). -/
def readHex (k : Nat) (t : Text) : Option Nat := if t.length = k then hexRun t else none

/-- A digest field: exactly 8 hexadecimal digits (R180). -/
def readDigest (t : Text) : Option Digest := (readHex 8 t).map (BitVec.ofNat 32)

/-- A digest as a reply spells it (R180). -/
def digestText (d : Digest) : Text := hexDigits 8 d.toNat

/-! ## Words -/

/-- The lane letters (R180). -/
def laneText : Lane → Text
  | .a => asc "A"
  | .b => asc "B"
  | .c => asc "C"

/-- A lane letter in capitals (R180). -/
def readLane (t : Text) : Option Lane := Lane.all.find? (fun l => laneText l = t)

def linkText : LinkNo → Text
  | .one => asc "1"
  | .two => asc "2"

/-- The verbs of R164. -/
inductive Verb where
  | point | drop | bank | openSession | closeSession | setSetting | start | resume | restart
  | stage | seal | join | leave | handover | returnLane
  | status | lanes | points | banks | round | digest | faults | ack
  deriving DecidableEq, Repr

/-- The verb as a request line spells it (R164). -/
def verbText : Verb → Text
  | .point => asc "POINT"
  | .drop => asc "DROP"
  | .bank => asc "BANK"
  | .openSession => asc "OPEN"
  | .closeSession => asc "CLOSE"
  | .setSetting => asc "SET"
  | .start => asc "START"
  | .resume => asc "RESUME"
  | .restart => asc "RESTART"
  | .stage => asc "STAGE"
  | .seal => asc "SEAL"
  | .join => asc "JOIN"
  | .leave => asc "LEAVE"
  | .handover => asc "HANDOVER"
  | .returnLane => asc "RETURN"
  | .status => asc "STATUS"
  | .lanes => asc "LANES"
  | .points => asc "POINTS"
  | .banks => asc "BANKS"
  | .round => asc "ROUND"
  | .digest => asc "DIGEST"
  | .faults => asc "FAULTS"
  | .ack => asc "ACK"

def allVerbs : List Verb :=
  [.point, .drop, .bank, .openSession, .closeSession, .setSetting, .start, .resume, .restart, .stage, .seal, .join,
   .leave, .handover, .returnLane, .status, .lanes, .points, .banks, .round, .digest, .faults, .ack]

/-- The verb of a line, compared character for character in capitals (R164). -/
def readVerb (t : Text) : Option Verb := allVerbs.find? (fun v => verbText v = t)

/-- JOIN, RETURN, RESUME, OPEN and STATUS resynchronise the sequence (R162). -/
def resynchronises : Verb → Bool
  | .join | .returnLane | .resume | .openSession | .status => true
  | _ => false

/-- The eight verbs that are served for an EXCLUDED lane too (R165). -/
def servedExcluded : Verb → Bool
  | .status | .lanes | .points | .banks | .round | .digest | .faults | .ack => true
  | _ => false

/-- The sixteen settings, in the order of the table of R130. -/
inductive SettingName where
  | roundtime | quiet | hold | flap | strikes | decay | probation | probfail | suspend | susplimit
  | replytime | linkstrikes | linkdecay | settle | survey | session
  deriving DecidableEq, Repr

def allSettings : List SettingName :=
  [.roundtime, .quiet, .hold, .flap, .strikes, .decay, .probation, .probfail, .suspend, .susplimit,
   .replytime, .linkstrikes, .linkdecay, .settle, .survey, .session]

def settingText : SettingName → Text
  | .roundtime => asc "ROUNDTIME"
  | .quiet => asc "QUIET"
  | .hold => asc "HOLD"
  | .flap => asc "FLAP"
  | .strikes => asc "STRIKES"
  | .decay => asc "DECAY"
  | .probation => asc "PROBATION"
  | .probfail => asc "PROBFAIL"
  | .suspend => asc "SUSPEND"
  | .susplimit => asc "SUSPLIMIT"
  | .replytime => asc "REPLYTIME"
  | .linkstrikes => asc "LINKSTRIKES"
  | .linkdecay => asc "LINKDECAY"
  | .settle => asc "SETTLE"
  | .survey => asc "SURVEY"
  | .session => asc "SESSION"

def readSetting (t : Text) : Option SettingName := allSettings.find? (fun n => settingText n = t)

/-- The range of a setting (R130). -/
def settingRange : SettingName → Nat × Nat
  | .roundtime => (1, 50)
  | .quiet => (5, 200)
  | .hold => (20, 200)
  | .flap => (100, 2000)
  | .strikes => (1, 15)
  | .decay => (4, 64)
  | .probation => (4, 64)
  | .probfail => (1, 7)
  | .suspend => (100, 5000)
  | .susplimit => (1, 7)
  | .replytime => (2, 50)
  | .linkstrikes => (1, 7)
  | .linkdecay => (8, 255)
  | .settle => (1, 50)
  | .survey => (10, 1000)
  | .session => (500, 10000)

/-! ## The CRC-16 of lane lines and driver frames -/

/-- One shift of the CRC-16 register (R181). -/
def crc16Bit (r : BitVec 16) : BitVec 16 :=
  if r.msb then (r <<< 1) ^^^ 0x1021#16 else r <<< 1

/-- One byte enters the CRC-16 register, most significant bit first (R181). -/
def crc16Byte (r : BitVec 16) (b : Byte) : BitVec 16 :=
  Nat.repeat crc16Bit 8 (r ^^^ (b.setWidth 16 <<< 8))

/-- The CRC-16 of a run of bytes: polynomial 1021, register from FFFF, neither reflected nor inverted (R181). -/
def crc16 (t : Text) : BitVec 16 := t.foldl crc16Byte 0xFFFF#16

/-! ## Request lines -/

/-- A checked request line: its characters from the marker through the last CRC digit, and what they spell (R157). -/
structure Request where
  text : Text
  seq : Byte
  verb : Text
  fields : List Text
  deriving DecidableEq, Repr

/-- The characters the CRC covers: marker, sequence number, verb and fields, each after one space, and the space before
the asterisk (R157, R181). -/
def requestCovered (seq : Byte) (verb : Text) (fields : List Text) : Text :=
  [charColon] ++ hexDigits 2 seq.toNat ++ [charSpace] ++ verb ++ fields.flatMap (fun f => charSpace :: f) ++ [charSpace]

/-- The characters of a request line, from the marker through the CRC, as its canonical spelling has them (R157). -/
def requestText (seq : Byte) (verb : Text) (fields : List Text) : Text :=
  let covered := requestCovered seq verb fields
  covered ++ [charStar] ++ hexDigits 4 (crc16 covered).toNat

/-- The request line with this sequence number, verb and fields in its canonical spelling. -/
def mkRequest (seq : Byte) (verb : Text) (fields : List Text) : Request :=
  { text := requestText seq verb fields, seq, verb, fields }

/-- The characters of a request line as they reach the port undamaged, CR and LF at the end. -/
def requestChars (r : Request) : List RxByte := (r.text ++ [charCR, charLF]).map (fun c => ⟨c, false⟩)

/-- Breaks a text into its tokens, separated by one or more spaces (R180); `cur` is the token under way. -/
def tokensFrom (cur : Text) : Text → List Text
  | [] => if cur = [] then [] else [cur]
  | c :: cs =>
    if c = charSpace then
      if cur = [] then tokensFrom [] cs else cur :: tokensFrom [] cs
    else tokensFrom (cur ++ [c]) cs

/-- Why a line is discarded (R158): CHECK, LENGTH, SYNTAX, OVERRUN. -/
inductive LineFault where
  | check | length | form | overrun
  deriving DecidableEq, Repr

/-- The parts of a line that passes check 3 of R158: the characters the CRC covers and the four CRC digits as a number. -/
def splitLine (t : Text) : Option (Text × Nat) :=
  let n := t.length
  let covered := t.take (n - 7)
  let tail := t.drop (n - 7)
  if t.drop (n - 2) = [charCR, charLF] ∧ tail.head? = some charStar ∧ covered.head? = some charColon ∧
      covered.getLast? = some charSpace ∧ covered.all lineChar = true then
    (readHex 4 ((tail.drop 1).take 4)).map (fun crc => (covered, crc))
  else none

/-- What the covered characters spell, if they pass check 5 of R158: two hexadecimal digits, a space and a verb of at least
one character directly after the marker (log entry 10). -/
def readCovered (text covered : Text) : Option Request :=
  match readHex 2 ((covered.drop 1).take 2), covered.drop 3 with
  | some n, sp :: v :: rest =>
    if sp = charSpace ∧ v ≠ charSpace then
      match tokensFrom [] (v :: rest) with
      | verb :: fields => some { text, seq := BitVec.ofNat 8 n, verb, fields }
      | [] => none
    else none
  | _, _ => none

/-- Checks 2 to 5 of R158, made in order at the LF that ends the line. A damaged character fails check 2 wherever it stands, the
damaged LF that ends the line included (R156, log entry 19). -/
def checkLine (chars : List RxByte) : Except LineFault Request :=
  let t := chars.map RxByte.value
  if chars.any RxByte.damaged then .error .check
  else match splitLine t with
    | none => .error .form
    | some (covered, crc) =>
      if (crc16 covered).toNat ≠ crc then .error .check
      else match readCovered (t.take (t.length - 2)) covered with
        | none => .error .form
        | some r => .ok r

/-! ## Form checks shared by several requests -/

/-- The form of a request that takes one field: its absence is refused under `missing`, more than one field with COUNT
whatever the first is, and a field that `read` does not read under `name`. That the count comes before the field is the model's
reading where the rule names both without an order (log entry 9); R133 and R150 state it. -/
def oneField {α : Type} (missing name : Text) (read : Text → Option α) : List Text → Except Text α
  | [] => .error missing
  | [f] => match read f with
    | some x => .ok x
    | none => .error name
  | _ :: _ :: _ => .error (asc "COUNT")

/-- The form check of JOIN, RETURN, RESUME and START: one field of exactly 8 hexadecimal digits (R46, R78, R133, R137). More than one
field is refused with COUNT whatever the first is, as R133 states for START and log entry 9 reads for the others. The answer is the
digest, or the name that NO FIELD carries. -/
def digestForm : List Text → Except Text Digest := oneField (asc "DIGEST") (asc "DIGEST") readDigest

/-- The form check of POINTS and BANKS (R170). -/
def runForm (fields : List Text) : Except Text (Nat × Nat) :=
  match fields with
  | [] => .error (asc "FIRST")
  | f :: rest =>
    match readNumber f, rest with
    | none, _ => .error (asc "FIRST")
    | some _, [] => .error (asc "COUNT")
    | some x, g :: more =>
      match readNumber g with
      | none => .error (asc "NUMBER")
      | some n => if more = [] then .ok (x, n) else .error (asc "COUNT")

/-- A STAGE pair: decimal point number, '=', decimal value, nothing else (R21, R180). -/
def readPair (t : Text) : Option (Nat × Nat) :=
  match readNumber (t.takeWhile (· ≠ charEquals)), t.dropWhile (· ≠ charEquals) with
  | some p, _ :: v => (readNumber v).map (fun n => (p, n))
  | _, _ => none

/-- Reads every field as a STAGE pair; none at the first that is not one. -/
def readPairs : List Text → Option (List (Nat × Nat))
  | [] => some []
  | t :: ts =>
    match readPair t, readPairs ts with
    | some p, some ps => some (p :: ps)
    | _, _ => none

/-- The form check of STAGE (R21). -/
def stageForm (fields : List Text) : Except Text (Nat × List (Nat × Nat)) :=
  match fields with
  | [] => .error (asc "ROUND")
  | f :: rest =>
    match readNumber f, readPairs rest with
    | none, _ => .error (asc "ROUND")
    | some _, none => .error (asc "PAIR")
    | some r, some ps =>
      if 1 ≤ ps.length ∧ ps.length ≤ Config.maxPairs then .ok (r, ps) else .error (asc "COUNT")

/-- The form check of SEAL (R24), more than one field refused with COUNT whatever the first is (log entry 9). -/
def sealForm : List Text → Except Text Nat := oneField (asc "ROUND") (asc "ROUND") readNumber

/-- The form check of HANDOVER (R61), more than one field refused with COUNT whatever the first is (log entry 9). -/
def handoverForm : List Text → Except Text Lane := oneField (asc "LANE") (asc "LANE") readLane

/-- The form check of ACK: 1 to 10 decimal digits (R150). -/
def ackForm : List Text → Except Text Nat := oneField (asc "SERIAL") (asc "SERIAL") (readDecimal 10)

/-- The form check of SET (R131); a SET with a name alone is refused for its count (log entry 9). -/
def setForm (fields : List Text) : Except Text (SettingName × Nat) :=
  match fields with
  | [] => .error (asc "NAME")
  | f :: rest =>
    match readSetting f, rest with
    | none, _ => .error (asc "NAME")
    | some _, [] => .error (asc "COUNT")
    | some n, g :: more =>
      match readNumber g with
      | none => .error (asc "VALUE")
      | some v => if more = [] then .ok (n, v) else .error (asc "COUNT")

/-- A POINT request that passed its form check (R4). -/
inductive PointForm where
  | level (p min max tol safe : Nat)
  | discrete (p safe : Nat)
  deriving DecidableEq, Repr

/-- The number fields of a POINT after its kind, read from left to right under their names; the field count is checked
last (R4). -/
def readNamed : List Text → List Text → Except Text (List Nat)
  | [], [] => .ok []
  | [], _ :: _ => .error (asc "COUNT")
  | _ :: _, [] => .error (asc "COUNT")
  | name :: names, f :: fs =>
    match readNumber f with
    | none => .error name
    | some n =>
      match readNamed names fs with
      | .ok ns => .ok (n :: ns)
      | .error e => .error e

/-- The form check of POINT (R4); a POINT that ends before its kind is refused for its count (log entry 9). -/
def pointForm (fields : List Text) : Except Text PointForm :=
  match fields with
  | [] => .error (asc "POINT")
  | f :: rest =>
    match readNumber f with
    | none => .error (asc "POINT")
    | some p =>
      match rest with
      | [] => .error (asc "COUNT")
      | kind :: more =>
        if kind = asc "LEVEL" then
          match readNamed [asc "MIN", asc "MAX", asc "TOL", asc "SAFE"] more with
          | .ok [mn, mx, tol, safe] => .ok (.level p mn mx tol safe)
          | .ok _ => .error (asc "COUNT")
          | .error e => .error e
        else if kind = asc "DISCRETE" then
          match readNamed [asc "SAFE"] more with
          | .ok [safe] => .ok (.discrete p safe)
          | .ok _ => .error (asc "COUNT")
          | .error e => .error e
        else .error (asc "KIND")

/-- The form check of DROP (R7): COUNT for any other number of fields than one, whatever the first is (log entry 9). -/
def dropForm : List Text → Except Text Nat := oneField (asc "COUNT") (asc "POINT") readNumber

/-- A BANK request that passed its form check (R86). -/
inductive BankForm where
  | define (b addr link : Nat)
  | remove (b : Nat)
  deriving DecidableEq, Repr

/-- The form check of BANK (R86); a BANK with one field, and one that ends after a well-formed address without its link field, is
refused for its count (log entry 9). -/
def bankForm (fields : List Text) : Except Text BankForm :=
  match fields with
  | [] => .error (asc "BANK")
  | f :: rest =>
    match readNumber f, rest with
    | none, _ => .error (asc "BANK")
    | some _, [] => .error (asc "COUNT")
    | some b, g :: more =>
      if g = asc "NONE" then
        if more = [] then .ok (.remove b) else .error (asc "COUNT")
      else match readNumber g, more with
        | none, _ => .error (asc "ADDRESS")
        | some _, [] => .error (asc "COUNT")
        | some addr, h :: extra =>
          match readNumber h with
          | none => .error (asc "LINK")
          | some k => if extra = [] then .ok (.define b addr k) else .error (asc "COUNT")

end Sys2Proof.Machine
end

