-- ==== Sys2Proof/Machine/State.lean ====
section
/-! DEFINITION. The state of the V364 as plain data, and its values right after a reset. -/

namespace Sys2Proof.Machine

/-! ## Timebase -/

/-- An instant of the Timebase: device time and the microseconds of the millisecond that has begun (R186, log entry 2). -/
structure Moment where
  ms : Time
  us : Nat
  deriving DecidableEq, Repr

/-! ## Mode Controller -/

/-- The modes (R123). -/
inductive Mode where
  | configure | run | safe
  deriving DecidableEq, Repr

/-- The sixteen settings (R130). -/
structure Settings where
  roundtime : Nat
  quiet : Nat
  hold : Nat
  flap : Nat
  strikes : Nat
  decay : Nat
  probation : Nat
  probfail : Nat
  suspend : Nat
  susplimit : Nat
  replytime : Nat
  linkstrikes : Nat
  linkdecay : Nat
  settle : Nat
  survey : Nat
  session : Nat
  deriving DecidableEq, Repr

/-- The defaults of R130. -/
def Settings.default : Settings :=
  { roundtime := 4, quiet := 20, hold := 60, flap := 450, strikes := 3, decay := 16, probation := 8, probfail := 3,
    suspend := 500, susplimit := 3, replytime := 10, linkstrikes := 3, linkdecay := 32, settle := 5, survey := 50,
    session := 2000 }

/-! ## Lane Supervisor -/

/-- The roles of a lane (R44, R45). -/
inductive Role where
  | absent | probation | standby | inControl | held | suspended | excluded
  deriving DecidableEq, Repr

/-- The power line states (section 4.1). -/
inductive PowerLine where
  | high | confirming | low
  deriving DecidableEq, Repr

/-- The lane record (R44). -/
@[ext]
structure LaneRec where
  role : Role
  strikes : Nat
  streak : Nat
  suspensions : Nat
  suspendedUntil : Option Time
  probClean : Nat
  probFails : Nat
  /-- The quiet timer: stopped, or running to this instant (R58). -/
  quiet : Option Moment
  power : PowerLine
  /-- The confirm timer: stopped, or running to this instant (R69). -/
  confirm : Option Moment
  lastReturn : Option Time
  /-- The hold deadline; its device time is the millisecond of the instant (R72, R186). -/
  holdDeadline : Option Moment
  roleBefore : Option Role
  carriedStrikes : Option Nat
  carriedStreak : Option Nat
  deriving DecidableEq, Repr

/-- A lane record after a reset, the power line sampled as `p` (R68, R83). -/
def LaneRec.reset (p : PowerLine) : LaneRec :=
  { role := .absent, strikes := 0, streak := 0, suspensions := 0, suspendedUntil := none, probClean := 0, probFails := 0,
    quiet := none, power := p, confirm := none, lastReturn := none, holdDeadline := none, roleBefore := none,
    carriedStrikes := none, carriedStreak := none }

/-! ## Round Voter -/

/-- The collecting round (R19): stage slots, seal set, round timer (stopped, or running to this instant). -/
@[ext]
structure Collecting where
  slots : PerLane (Vector (Option Nat) 64)
  sealed : LaneSet
  timer : Option Moment
  deriving DecidableEq, Repr

def noLanes : LaneSet := ⟨false, false, false⟩

/-- A collecting round as it comes into being (R19). -/
def Collecting.empty : Collecting :=
  { slots := PerLane.ofFn fun _ => Vector.replicate 64 none, sealed := noLanes, timer := none }

/-- Why a round closed (R41). -/
inductive CloseCause where
  | sealed | timer | departure
  deriving DecidableEq, Repr

/-- The last round summary (R41). -/
structure Summary where
  round : Nat
  cause : CloseCause
  time : Time
  voters : LaneSet
  late : LaneSet
  dissenters : LaneSet
  changed : Nat
  nomajority : Nat
  split : Nat
  deriving DecidableEq, Repr

/-! ## Point Table -/

/-- The kinds of a point (R2). -/
inductive Kind where
  | discrete | level
  deriving DecidableEq, Repr

/-- A point's definition (R2). -/
structure PointDef where
  kind : Kind
  min : Nat
  max : Nat
  tol : Nat
  safe : Nat
  deriving DecidableEq, Repr

/-- The point states (section 1.4). -/
inductive PointState where
  | undefined | inert | settled | pending | loading | off
  deriving DecidableEq, Repr

/-- The point record (section 1.2). The split count of an UNDEFINED point, which has none (R2), stands at 0. -/
@[ext]
structure PointRec where
  defn : Option PointDef
  target : Option Nat
  applied : Option Nat
  state : PointState
  splits : Nat
  changed : Option Nat
  deriving DecidableEq, Repr

/-- An UNDEFINED point (R2, R17). -/
def PointRec.blank : PointRec :=
  { defn := none, target := none, applied := none, state := .undefined, splits := 0, changed := none }

/-! ## Apply Engine -/

/-- A bank's definition (R84). -/
structure BankDef where
  address : Nat
  primary : LinkNo
  deriving DecidableEq, Repr

/-- The bank states (R89). -/
inductive BankState where
  | unused | down | warming | active | switching | disqualified
  deriving DecidableEq, Repr

/-- The link marks (R108). -/
inductive Mark where
  | good | failed
  deriving DecidableEq, Repr

/-- What a bank keeps for one of the two links (R84). -/
@[ext]
structure LinkRec where
  mark : Mark
  strikes : Nat
  streak : Nat
  deriving DecidableEq, Repr

def LinkRec.fresh : LinkRec := { mark := .good, strikes := 0, streak := 0 }

/-- An entry of a driver frame: a slot and a value (section 5.4). -/
structure Entry where
  slot : SlotNo
  value : Nat
  deriving DecidableEq, Repr

/-- The step an exchange is in; `survey` is the one step of a SURVEY, the other two are those of an APPLY (R84). -/
inductive Phase where
  | load | transfer | survey
  deriving DecidableEq, Repr

inductive Attempt where
  | first | second
  deriving DecidableEq, Repr

/-- The exchange in flight record (R84); its kind follows from its step. -/
structure Exchange where
  phase : Phase
  tag : Byte
  loaded : List Entry
  attempt : Attempt
  link : LinkNo
  deriving DecidableEq, Repr

/-- The bank record (R84). -/
@[ext]
structure BankRec where
  defn : Option BankDef
  state : BankState
  activeLink : Option LinkNo
  links : PerLink LinkRec
  tag : Byte
  /-- The pending set: whether each slot is a member (R104). -/
  pendingSet : Vector Bool 8
  resync : Bool
  /-- The settle deadline; its device time is the millisecond of the instant (R91, R110, R186). -/
  settle : Option Moment
  /-- The survey due time; its device time is the millisecond of the instant (R99, R186). -/
  surveyDue : Option Moment
  exchange : Option Exchange
  /-- The enable line EN_b, high or low (R85). -/
  enable : Bool
  deriving DecidableEq, Repr

def noSlots : Vector Bool 8 := Vector.replicate 8 false

/-- A bank record after a reset (R107). -/
def BankRec.blank : BankRec :=
  { defn := none, state := .unused, activeLink := some .one, links := ⟨LinkRec.fresh, LinkRec.fresh⟩, tag := 0#8,
    pendingSet := noSlots, resync := false, settle := none, surveyDue := none, exchange := none, enable := false }

/-- The kinds of driver frames (R183). -/
inductive FrameKind where
  | load | transfer | survey | echo | done | state
  deriving DecidableEq, Repr

/-- A driver frame by its fields (section 5.4). -/
structure Frame where
  address : Nat
  kind : FrameKind
  tag : Byte
  entries : List Entry
  deriving DecidableEq, Repr

/-- Where a transaction stands: the part's frame is being sent, or the reply timer runs to its expiry (R92). -/
inductive Wait where
  | sending
  | awaiting (expiry : Moment)
  deriving DecidableEq, Repr

/-- A transaction in flight: the bank it serves, the frame sent, and where it stands (R92). -/
structure Transaction where
  bank : BankNo
  frame : Frame
  wait : Wait
  deriving DecidableEq, Repr

/-- A link controller (R95). `discardNext` is set while a frame is arriving whose bytes were under way when the reply timer
expired; that frame is discarded when it completes (R92). `settledAt` is the model's own: the device time of the settle deadline last
taken for a bank of this link since an exchange last started on it, by which the controller knows that other deadlines of that device
time are still to be taken (R95, log entry 7). -/
@[ext]
structure LinkCtl where
  pointer : BankNo
  transaction : Option Transaction
  discardNext : Bool
  settledAt : Option Time
  deriving DecidableEq, Repr

def LinkCtl.reset : LinkCtl := { pointer := 7, transaction := none, discardNext := false, settledAt := none }

/-! ## Fault Log -/

/-- The codes of fault records (R145, R146). -/
inductive Code where
  | lineError | joined | qualified | probationMiss | late | dissent | quiet | suspended | excluded | left | control
  | powerLoss | powerGlitch | returned | holdExpired
  | nomajority | split | exchangeFail | linkFailed | failover | bankDisqualified | started | safeEntered | resumed
  | restarted | sessionExpired
  deriving DecidableEq, Repr

/-- The causes of a suspension (R55). -/
inductive SuspendCause where
  | strikes | probation | quiet | hold
  deriving DecidableEq, Repr

/-- How an attempt of an exchange failed (R93, R98, R101). -/
inductive Failure where
  | timeout | check | echo | sense
  deriving DecidableEq, Repr

/-- The cause words of fault records (R145, R146). -/
inductive Cause where
  | line (c : LineFault)
  | role (r : Role)
  | session
  | suspend (c : SuspendCause)
  | limit | flap
  | request | safe
  | handover | assign
  | exchange (p : Phase) (f : Failure)
  | code (c : Code)
  | mode (m : Mode)
  | idle
  deriving DecidableEq, Repr

/-- What a block hands the Fault Log: a record without its serial and time (R143, R144). A field not given is absent. -/
structure Event where
  code : Code
  lane : Option Lane := none
  bank : Option BankNo := none
  link : Option LinkNo := none
  point : Option PointNo := none
  round : Option Nat := none
  cause : Option Cause := none
  values : List Nat := []
  deriving DecidableEq, Repr

/-- A fault record (R144). -/
structure Record where
  serial : Serial
  time : Time
  event : Event
  deriving DecidableEq, Repr

/-- The Fault Log: ring, oldest first, next serial, and for each lane cursor and gap count (R142). -/
@[ext]
structure FaultLog where
  ring : List Record
  next : Serial
  cursors : PerLane Serial
  gaps : PerLane Nat
  deriving DecidableEq, Repr

def FaultLog.reset : FaultLog :=
  { ring := [], next := 1#32, cursors := ⟨1#32, 1#32, 1#32⟩, gaps := ⟨0, 0, 0⟩ }

/-! ## Lane Ports -/

/-- A reply line as it is being sent: its sequence number, its body and the number of its U= field (R166). -/
structure Reply where
  seq : Byte
  body : List Text
  unread : Nat
  deriving DecidableEq, Repr

/-- The last-reply record: the stored request line and the stored reply, without its U= field (R163). -/
structure Stored where
  line : Text
  body : List Text
  deriving DecidableEq, Repr

/-- A Lane Port (chapter Lane Links). The transmitter is idle, or busy with one reply (R167). -/
@[ext]
structure LanePort where
  assembling : List RxByte
  dropping : Bool
  queue : List Request
  sending : Option Reply
  expected : Option Byte
  stored : Option Stored
  deriving DecidableEq, Repr

/-- A Lane Port after a reset (R168). -/
def LanePort.reset : LanePort :=
  { assembling := [], dropping := false, queue := [], sending := none, expected := none, stored := none }

/-! ## The machine -/

/-- Why the machine stops. The spec gives no event at which the part stops or whose effect it leaves undefined, so no
command raises a fault. -/
inductive Fault where
  deriving DecidableEq, Repr

/-- Why a command has no meaning. -/
inductive Refusal where
  /-- Raised by exec alone, for a command this model gives no meaning yet. Safe. No arm raises it. -/
  | notModelled (mnemonic : String)
  deriving DecidableEq, Repr

/-- The state of the part, and the queue of the commands that wait, first in, first out. -/
@[ext]
structure State where
  clock : Moment
  /-- The part is held in reset (R141). -/
  inReset : Bool
  mode : Mode
  /-- The holder of the configuration session (R126). -/
  session : Option Lane
  /-- The session idle timer: stopped, or running to this instant (R128). -/
  idle : Option Moment
  settings : Settings
  digest : Digest
  log : FaultLog
  lanes : PerLane LaneRec
  ports : PerLane LanePort
  /-- The current round number, 0 meaning no round (R18). -/
  round : Nat
  collecting : Option Collecting
  summary : Option Summary
  points : Vector PointRec 64
  banks : Vector BankRec 8
  links : PerLink LinkCtl
  /-- The model's own: the commands that wait. -/
  pending : List Instr
  deriving DecidableEq, Repr

/-- The digest of the reset configuration (R132): the CRC-32 of 528 zero bytes and the sixteen defaults. That it is what
R184 computes is test_reset_digest of Tests/Slice0.lean. -/
def resetDigest : Digest := 0x7CE3A8F2#32

/-- The values of every block at the end of a reset that samples the power lines as `power` (R17, R43, R68, R83, R107, R141,
R142, R168). -/
def State.afterReset (power : PerLane PowerLine) : State :=
  { clock := { ms := 0#32, us := 0 }, inReset := false, mode := .configure, session := none, idle := none,
    settings := Settings.default, digest := resetDigest, log := FaultLog.reset,
    lanes := PerLane.ofFn fun l => LaneRec.reset (power.get l),
    ports := PerLane.ofFn fun _ => LanePort.reset,
    round := 0, collecting := none, summary := none,
    points := Vector.replicate 64 PointRec.blank, banks := Vector.replicate 8 BankRec.blank,
    links := PerLink.ofFn fun _ => LinkCtl.reset, pending := [] }

/-- The machine right after reset, every power line sampled HIGH (log entry 5). -/
def State.reset : State := State.afterReset ⟨.high, .high, .high⟩

end Sys2Proof.Machine
end

