-- ==== Sys2Proof/Machine/Ops.lean ====
section
/-! DEFINITION. The named operations over the state that several commands share: device time, the records of lanes, ports, links,
banks and points, the Fault Log, and the target write. -/

namespace Sys2Proof.Machine

/-! ## Device time -/

/-- The instant `us` microseconds later; device time drops the fraction of a millisecond and wraps (R186). -/
def Moment.after (m : Moment) (us : Nat) : Moment :=
  { ms := m.ms + BitVec.ofNat 32 ((m.us + us) / 1000), us := (m.us + us) % 1000 }

/-- `dt` microseconds pass. -/
def State.advance (s : State) (dt : Nat) : State := { s with clock := s.clock.after dt }

/-- The device time of the event under way (R186). -/
def State.now (s : State) : Time := s.clock.ms

/-- The device time `ms` milliseconds from now (R186). -/
def State.deadline (s : State) (ms : Nat) : Time := s.now + BitVec.ofNat 32 ms

/-- The instant `ms` milliseconds from now, to which a timer or deadline set at this event runs: it keeps the fraction of the event's
own millisecond, and its device time is that of the event plus `ms` (R186, log entry 2). -/
def State.expiry (s : State) (ms : Nat) : Moment := { ms := s.deadline ms, us := s.clock.us }

/-- The milliseconds from `from_` to `to_`, modulo 4294967296 (R186). -/
def interval (from_ to_ : Time) : Nat := (to_ - from_).toNat

/-- Device time `now` has reached `d`: the interval from `d` to `now` lies in the lower half of the 32-bit range (log entry 6). -/
def reached (now d : Time) : Bool := decide (interval d now < 2147483648)

/-- The instant `now` has reached the instant `e`: by device time, and within the millisecond of `e` by the microseconds. A timer or
deadline takes effect only where its instant is reached (R172, R186, log entry 3). -/
def Moment.reached (now e : Moment) : Bool :=
  if now.ms = e.ms then decide (e.us ≤ now.us) else Machine.reached now.ms e.ms

/-- What a command does at its event: nothing while the part is held in reset (R141); else device time advances and the event is
taken. -/
def happens (dt : Nat) (s : State) (event : State → State) : Host.Outcome State Fault Refusal :=
  if s.inReset then .next s else .next (event (s.advance dt))

/-! ## Records -/

def State.lane (s : State) (l : Lane) : LaneRec := s.lanes.get l
def State.port (s : State) (l : Lane) : LanePort := s.ports.get l
def State.link (s : State) (k : LinkNo) : LinkCtl := s.links.get k
def State.bank (s : State) (b : BankNo) : BankRec := s.banks[b]
def State.point (s : State) (p : PointNo) : PointRec := s.points[p]

def State.setLane (s : State) (l : Lane) (r : LaneRec) : State := { s with lanes := s.lanes.set l r }
def State.setPort (s : State) (l : Lane) (r : LanePort) : State := { s with ports := s.ports.set l r }
def State.setLink (s : State) (k : LinkNo) (r : LinkCtl) : State := { s with links := s.links.set k r }
def State.setBank (s : State) (b : BankNo) (r : BankRec) : State := { s with banks := s.banks.set b r }
def State.setPoint (s : State) (p : PointNo) (r : PointRec) : State := { s with points := s.points.set p r }

/-- Whether the slot of a point is in its bank's pending set (R104). -/
def State.slotPending (s : State) (p : PointNo) : Bool := (s.bank (bankOf p)).pendingSet[slotOf p]

/-- Updates every point record together with its slot's membership in the pending set; `f` is given the point's number, its
record and its membership, and answers both anew. -/
def State.updatePoints (s : State) (f : PointNo → PointRec → Bool → PointRec × Bool) : State :=
  { s with
    points := Vector.ofFn fun p => (f p (s.point p) (s.slotPending p)).1
    banks := Vector.ofFn fun b => { s.bank b with
      pendingSet := Vector.ofFn fun k => (f (pointAt b k) (s.point (pointAt b k)) (s.bank b).pendingSet[k]).2 } }

/-! ## Point and bank facts -/

def PointRec.defined (r : PointRec) : Bool := r.defn.isSome

/-- The point's tolerance (R2); 0 for an UNDEFINED point, which has none. -/
def PointRec.tol (r : PointRec) : Nat := (r.defn.map PointDef.tol).getD 0

/-- The points of a bank, in ascending order (R1). -/
def bankPoints (b : BankNo) : List PointNo := (List.finRange 8).map (pointAt b)

/-- The defined points of a bank, in ascending order. -/
def State.definedIn (s : State) (b : BankNo) : List PointNo := (bankPoints b).filter fun p => (s.point p).defined

/-- A bank is in use when it is defined and holds at least one defined point (R85). -/
def State.inUse (s : State) (b : BankNo) : Bool := (s.bank b).defn.isSome && !(s.definedIn b).isEmpty

/-- The number of defined points (R134). -/
def State.countDefined (s : State) : Nat := ((List.finRange 64).filter fun p => (s.point p).defined).length

/-- The number of banks in use (R134). -/
def State.countInUse (s : State) : Nat := ((List.finRange 8).filter s.inUse).length

/-- In CONFIGURE a bank is DOWN if it is in use and UNUSED otherwise, its enable low (R90). -/
def State.reevaluateBank (s : State) (b : BankNo) : State :=
  s.setBank b { s.bank b with state := if s.inUse b then .down else .unused, enable := false }

/-! ## The target write -/

/-- A target write, on a point record and its slot's membership in the pending set, in the five rows of R9. An INERT or UNDEFINED
point has no target and no write reaches it (R3). -/
def writeTarget (v : Nat) (r : PointRec) (member : Bool) : PointRec × Bool :=
  if r.target = some v then (r, member)
  else match r.state with
    | .settled => ({ r with target := some v, state := .pending }, true)
    | .pending =>
      if r.applied = some v then ({ r with target := some v, state := .settled }, false)
      else ({ r with target := some v }, true)
    | .loading => ({ r with target := some v }, true)
    | .off => ({ r with target := some v }, member)
    | .inert | .undefined => (r, member)

/-- Whether writing `v` changes the point's target (R9). -/
def changesTarget (v : Nat) (r : PointRec) : Bool := decide (r.target ≠ some v)

/-! ## The Fault Log -/

/-- The serial after `x`: 1 follows 4294967295 (R142). -/
def serialAfter (x : Serial) : Serial := if x = 0xFFFFFFFF#32 then 1#32 else x + 1#32

/-- The oldest record leaves the ring; a lane whose cursor names it moves to the next and counts a gap (R152). -/
def FaultLog.dropOldest (g : FaultLog) : FaultLog :=
  match g.ring with
  | [] => g
  | r :: rest =>
    { g with
      ring := rest
      cursors := PerLane.ofFn fun l => if g.cursors.get l = r.serial then serialAfter r.serial else g.cursors.get l
      gaps := PerLane.ofFn fun l =>
        if g.cursors.get l = r.serial then min (g.gaps.get l + 1) Config.maxGap else g.gaps.get l }

/-- A full ring drops its oldest record first (R152). -/
def FaultLog.makeRoom (g : FaultLog) : FaultLog := if Config.ringSize ≤ g.ring.length then g.dropOldest else g

/-- An append: the record gets the next serial and the current device time and joins the newest end (R143). -/
def FaultLog.append (g : FaultLog) (now : Time) (e : Event) : FaultLog :=
  { g.makeRoom with
    ring := g.makeRoom.ring ++ [{ serial := g.next, time := now, event := e }]
    next := serialAfter g.next }

/-- The held records from the lane's cursor through the newest (R147). -/
def FaultLog.ahead (g : FaultLog) (l : Lane) : List Record :=
  if g.cursors.get l = g.next then [] else g.ring.dropWhile fun r => r.serial ≠ g.cursors.get l

/-- The lane's unread count (R147). -/
def FaultLog.unread (g : FaultLog) (l : Lane) : Nat := (g.ahead l).length

/-- A block appends a record at the event under way (R143). -/
def State.append (s : State) (e : Event) : State := { s with log := s.log.append s.now e }

/-! ## Roles -/

/-- A voter is a lane in STANDBY or IN_CONTROL (R45). -/
def Role.voting : Role → Bool
  | .standby | .inControl => true
  | _ => false

/-- The three roles that stage, seal and run a quiet timer (R45). -/
def Role.seated : Role → Bool
  | .probation | .standby | .inControl => true
  | _ => false

def State.role (s : State) (l : Lane) : Role := (s.lane l).role

/-- The lane in control, if any (R44, R63). -/
def State.control (s : State) : Option Lane := Lane.all.find? fun l => s.role l = .inControl

end Sys2Proof.Machine
end

