-- ==== Sys2Proof/Machine/Digest.lean ====
section
/-! DEFINITION. The configuration digest: its serialization and its CRC-32 (R132, R184). -/

namespace Sys2Proof.Machine

/-- A value of two bytes, high byte first (R184). -/
def twoBytes (n : Nat) : List Byte := [BitVec.ofNat 8 (n / 256), BitVec.ofNat 8 n]

/-- The eight bytes of a point: kind (0 UNDEFINED, 1 DISCRETE, 2 LEVEL), min, max, tolerance, safe value (R184). -/
def pointBytes (d : Option PointDef) : List Byte :=
  match d with
  | none => List.replicate 8 0#8
  | some d =>
    [match d.kind with | .discrete => 1#8 | .level => 2#8] ++ twoBytes d.min ++ twoBytes d.max ++
      [BitVec.ofNat 8 d.tol] ++ twoBytes d.safe

def linkNumber : LinkNo → Nat
  | .one => 1
  | .two => 2

/-- The two bytes of a bank: module address and primary link, 0 when undefined (R184). -/
def bankBytes (d : Option BankDef) : List Byte :=
  match d with
  | none => [0#8, 0#8]
  | some d => [BitVec.ofNat 8 d.address, BitVec.ofNat 8 (linkNumber d.primary)]

/-- The value of a setting (R130). -/
def Settings.get (g : Settings) : SettingName → Nat
  | .roundtime => g.roundtime
  | .quiet => g.quiet
  | .hold => g.hold
  | .flap => g.flap
  | .strikes => g.strikes
  | .decay => g.decay
  | .probation => g.probation
  | .probfail => g.probfail
  | .suspend => g.suspend
  | .susplimit => g.susplimit
  | .replytime => g.replytime
  | .linkstrikes => g.linkstrikes
  | .linkdecay => g.linkdecay
  | .settle => g.settle
  | .survey => g.survey
  | .session => g.session

/-- Gives a setting a value (R131). -/
def Settings.put (g : Settings) (n : SettingName) (v : Nat) : Settings :=
  match n with
  | .roundtime => { g with roundtime := v }
  | .quiet => { g with quiet := v }
  | .hold => { g with hold := v }
  | .flap => { g with flap := v }
  | .strikes => { g with strikes := v }
  | .decay => { g with decay := v }
  | .probation => { g with probation := v }
  | .probfail => { g with probfail := v }
  | .suspend => { g with suspend := v }
  | .susplimit => { g with susplimit := v }
  | .replytime => { g with replytime := v }
  | .linkstrikes => { g with linkstrikes := v }
  | .linkdecay => { g with linkdecay := v }
  | .settle => { g with settle := v }
  | .survey => { g with survey := v }
  | .session => { g with session := v }

/-- The 560 bytes over which the digest is computed (R184). -/
def configBytes (points : Vector PointRec 64) (banks : Vector BankRec 8) (g : Settings) : List Byte :=
  points.toList.flatMap (fun r => pointBytes r.defn) ++ banks.toList.flatMap (fun r => bankBytes r.defn) ++
    allSettings.flatMap (fun n => twoBytes (g.get n))

/-- One bit enters the CRC-32 register: polynomial 04C11DB7 (R184). -/
def crc32Bit (r : BitVec 32) (bit : Bool) : BitVec 32 :=
  if r.msb != bit then (r <<< 1) ^^^ 0x04C11DB7#32 else r <<< 1

/-- A byte enters least significant bit first (R184). -/
def crc32Byte (r : BitVec 32) (b : Byte) : BitVec 32 :=
  (List.range 8).foldl (fun r i => crc32Bit r (b.getLsbD i)) r

/-- The register after a run of bytes. The match on its number changes nothing; it has the register computed before the next byte
is looked at, so that long runs can be evaluated. -/
def crc32Run (r : BitVec 32) : List Byte → BitVec 32
  | [] => r
  | b :: bs =>
    match (crc32Byte r b).toNat with
    | 0 => crc32Run 0#32 bs
    | n + 1 => crc32Run (BitVec.ofNat 32 (n + 1)) bs

/-- The CRC-32 of R184: register from FFFFFFFF, the final register reflected and exclusive-ored with FFFFFFFF. -/
def crc32 (bytes : List Byte) : BitVec 32 := (crc32Run 0xFFFFFFFF#32 bytes).reverse ^^^ 0xFFFFFFFF#32

/-- The digest of the definitions and settings in force (R132). -/
def State.configDigest (s : State) : Digest := crc32 (configBytes s.points s.banks s.settings)

/-- The Mode Controller recomputes the digest (R132). -/
def State.recomputeDigest (s : State) : State := { s with digest := s.configDigest }

end Sys2Proof.Machine
end

