-- ==== Sys2Proof/Machine/Words.lean ====
section
/-! DEFINITION. How replies spell roles, modes, states, codes, causes and the other words of the record and report fields (R144 to
R146, R180, R182), and the line of a reply. -/

namespace Sys2Proof.Machine

def modeText : Mode → Text
  | .configure => asc "CONFIGURE"
  | .run => asc "RUN"
  | .safe => asc "SAFE"

def roleText : Role → Text
  | .absent => asc "ABSENT"
  | .probation => asc "PROBATION"
  | .standby => asc "STANDBY"
  | .inControl => asc "IN_CONTROL"
  | .held => asc "HELD"
  | .suspended => asc "SUSPENDED"
  | .excluded => asc "EXCLUDED"

def powerText : PowerLine → Text
  | .high => asc "HIGH"
  | .confirming => asc "CONFIRMING"
  | .low => asc "LOW"

def pointStateText : PointState → Text
  | .undefined => asc "UNDEFINED"
  | .inert => asc "INERT"
  | .settled => asc "SETTLED"
  | .pending => asc "PENDING"
  | .loading => asc "LOADING"
  | .off => asc "OFF"

def kindText : Kind → Text
  | .discrete => asc "DISCRETE"
  | .level => asc "LEVEL"

def bankStateText : BankState → Text
  | .unused => asc "UNUSED"
  | .down => asc "DOWN"
  | .warming => asc "WARMING"
  | .active => asc "ACTIVE"
  | .switching => asc "SWITCHING"
  | .disqualified => asc "DISQUALIFIED"

def markText : Mark → Text
  | .good => asc "GOOD"
  | .failed => asc "FAILED"

def closeCauseText : CloseCause → Text
  | .sealed => asc "SEALED"
  | .timer => asc "TIMER"
  | .departure => asc "DEPARTURE"

def codeText : Code → Text
  | .lineError => asc "LINE_ERROR"
  | .joined => asc "JOINED"
  | .qualified => asc "QUALIFIED"
  | .probationMiss => asc "PROBATION_MISS"
  | .late => asc "LATE"
  | .dissent => asc "DISSENT"
  | .quiet => asc "QUIET"
  | .suspended => asc "SUSPENDED"
  | .excluded => asc "EXCLUDED"
  | .left => asc "LEFT"
  | .control => asc "CONTROL"
  | .powerLoss => asc "POWER_LOSS"
  | .powerGlitch => asc "POWER_GLITCH"
  | .returned => asc "RETURNED"
  | .holdExpired => asc "HOLD_EXPIRED"
  | .nomajority => asc "NOMAJORITY"
  | .split => asc "SPLIT"
  | .exchangeFail => asc "EXCHANGE_FAIL"
  | .linkFailed => asc "LINK_FAILED"
  | .failover => asc "FAILOVER"
  | .bankDisqualified => asc "BANK_DISQUALIFIED"
  | .started => asc "STARTED"
  | .safeEntered => asc "SAFE_ENTERED"
  | .resumed => asc "RESUMED"
  | .restarted => asc "RESTARTED"
  | .sessionExpired => asc "SESSION_EXPIRED"

def phaseText : Phase → Text
  | .load => asc "LOAD"
  | .transfer => asc "TRANSFER"
  | .survey => asc "SURVEY"

def failureText : Failure → Text
  | .timeout => asc "TIMEOUT"
  | .check => asc "CHECK"
  | .echo => asc "ECHO"
  | .sense => asc "SENSE"

def lineFaultText : LineFault → Text
  | .check => asc "CHECK"
  | .length => asc "LENGTH"
  | .form => asc "SYNTAX"
  | .overrun => asc "OVERRUN"

def suspendCauseText : SuspendCause → Text
  | .strikes => asc "STRIKES"
  | .probation => asc "PROBATION"
  | .quiet => asc "QUIET"
  | .hold => asc "HOLD"

def causeText : Cause → Text
  | .line c => lineFaultText c
  | .role r => roleText r
  | .session => asc "SESSION"
  | .suspend c => suspendCauseText c
  | .limit => asc "LIMIT"
  | .flap => asc "FLAP"
  | .request => asc "REQUEST"
  | .safe => asc "SAFE"
  | .handover => asc "HANDOVER"
  | .assign => asc "ASSIGN"
  | .exchange p f => phaseText p ++ asc "_" ++ failureText f
  | .code c => codeText c
  | .mode m => modeText m
  | .idle => asc "IDLE"

/-- A field that may be absent, a hyphen if it is (R169, R180). -/
def orHyphen {α : Type} (spell : α → Text) : Option α → Text
  | none => hyphen
  | some x => spell x

/-- A field that names a lane, NONE where no lane qualifies (R169). -/
def laneOrNone : Option Lane → Text
  | none => asc "NONE"
  | some l => laneText l

/-- A set of lanes: their letters run together in the order A, B, C, or a hyphen when empty (R177, R182). -/
def laneSetText (x : LaneSet) : Text :=
  match x.members with
  | [] => hyphen
  | ls => ls.flatMap laneText

/-- Texts joined by one character. -/
def joinWith (sep : Byte) : List Text → Text
  | [] => []
  | [t] => t
  | t :: ts => t ++ sep :: joinWith sep ts

/-- A refusal: NO, a reason and its detail (R182). -/
def no (reason : String) (detail : List Text) : List Text := asc "NO" :: asc reason :: detail

/-- The covered characters of a reply line (R166, R181). -/
def replyCovered (r : Reply) : Text :=
  [charEquals] ++ hexDigits 2 r.seq.toNat ++ r.body.flatMap (fun t => charSpace :: t) ++
    [charSpace] ++ asc "U=" ++ dec r.unread ++ [charSpace]

/-- The characters of a reply line (R166, R182). -/
def replyText (r : Reply) : Text :=
  replyCovered r ++ [charStar] ++ hexDigits 4 (crc16 (replyCovered r)).toNat ++ [charCR, charLF]

end Sys2Proof.Machine
end

