-- ==== Sys2Proof/Machine/Points.lean ====
section
/-! DEFINITION. The requests POINT and DROP (R4 to R7) and BANK (R86 to R88), as their owners handle them once the checks of R125
have passed. -/

namespace Sys2Proof.Machine

/-- What follows an accepted POINT or DROP: the bank is re-evaluated and the digest recomputed (R6, R7, R90). -/
def State.afterPointChange (s : State) (p : PointNo) : State := (s.reevaluateBank (bankOf p)).recomputeDigest

/-- A point record as an accepted POINT leaves it (R6). -/
def PointRec.inert (d : PointDef) : PointRec :=
  { defn := some d, target := none, applied := none, state := .inert, splits := 0, changed := none }

/-- The definition is replaced as a whole (R6). -/
def State.definePoint (s : State) (p : PointNo) (d : PointDef) : State :=
  (s.setPoint p (PointRec.inert d)).afterPointChange p

/-- The range checks of POINT in their order (R5). The answer is the point and its definition, or the name of the check that fails. -/
def pointRange : PointForm → Except Text (PointNo × PointDef)
  | .level p mn mx tol safe =>
    if h : p < 64 then
      if 4095 < mn then .error (asc "MIN")
      else if 4095 < mx ∨ mx ≤ mn then .error (asc "MAX")
      else if 255 < tol then .error (asc "TOL")
      else if safe < mn ∨ mx < safe then .error (asc "SAFE")
      else .ok (⟨p, h⟩, { kind := .level, min := mn, max := mx, tol, safe })
    else .error (asc "POINT")
  | .discrete p safe =>
    if h : p < 64 then
      if 1 < safe then .error (asc "SAFE")
      else .ok (⟨p, h⟩, { kind := .discrete, min := 0, max := 1, tol := 0, safe })
    else .error (asc "POINT")

/-- POINT (R4 to R6). -/
def handlePoint (fields : List Text) (s : State) : State × List Text :=
  match pointForm fields with
  | .error name => (s, no "FIELD" [name])
  | .ok form =>
    match pointRange form with
    | .error name => (s, no "RANGE" [name])
    | .ok (p, d) => (s.definePoint p d, [asc "OK", dec p.val, asc "DEFINED"])

/-- DROP (R7). -/
def handleDrop (fields : List Text) (s : State) : State × List Text :=
  match dropForm fields with
  | .error name => (s, no "FIELD" [name])
  | .ok n =>
    if h : n < 64 then
      let p : PointNo := ⟨n, h⟩
      if (s.point p).defined then
        ((s.setPoint p PointRec.blank).afterPointChange p, [asc "OK", dec n, asc "DROPPED"])
      else (s, no "UNDEFINED" [dec n])
    else (s, no "RANGE" [asc "POINT"])

/-- The defined bank other than `b` that holds module address `addr` (R87). -/
def State.clash (s : State) (b : BankNo) (addr : Nat) : Option BankNo :=
  (List.finRange 8).find? fun c => c ≠ b && (s.bank c).defn.map BankDef.address = some addr

/-- An accepted definition of a bank (R87). -/
def State.defineBank (s : State) (b : BankNo) (d : BankDef) : State :=
  ((s.setBank b { s.bank b with defn := some d, activeLink := some d.primary }).reevaluateBank b).recomputeDigest

/-- An accepted removal of a bank (R88). -/
def State.removeBank (s : State) (b : BankNo) : State :=
  (s.setBank b { s.bank b with defn := none, state := .unused, enable := false }).recomputeDigest

/-- The definition form of BANK past its form check (R87). -/
def handleBankDefine (b addr link : Nat) (s : State) : State × List Text :=
  if h : b < 8 then
    if addr < 1 ∨ 31 < addr then (s, no "RANGE" [asc "ADDRESS"])
    else if link ≠ 1 ∧ link ≠ 2 then (s, no "RANGE" [asc "LINK"])
    else match s.clash ⟨b, h⟩ addr with
      | some c => (s, no "CLASH" [dec c.val])
      | none =>
        (s.defineBank ⟨b, h⟩ { address := addr, primary := if link = 1 then .one else .two },
          [asc "OK", dec b, asc "DEFINED"])
  else (s, no "RANGE" [asc "BANK"])

/-- The removal form of BANK past its form check (R88). -/
def handleBankRemove (b : Nat) (s : State) : State × List Text :=
  if h : b < 8 then
    if (s.bank ⟨b, h⟩).defn.isSome then (s.removeBank ⟨b, h⟩, [asc "OK", dec b, asc "REMOVED"])
    else (s, no "UNDEFINED" [dec b])
  else (s, no "RANGE" [asc "BANK"])

/-- BANK in both its forms (R86 to R88). -/
def handleBank (fields : List Text) (s : State) : State × List Text :=
  match bankForm fields with
  | .error name => (s, no "FIELD" [name])
  | .ok (.define b addr link) => handleBankDefine b addr link s
  | .ok (.remove b) => handleBankRemove b s

end Sys2Proof.Machine
end

