-- ==== Sys2Proof/Machine/Frames.lean ====
section
/-! DEFINITION. Driver frames: their bytes and how a received frame is read and judged (R93, R183). -/

namespace Sys2Proof.Machine

/-- The kind codes of R183. -/
def frameKindCode : FrameKind → Nat
  | .load => 1
  | .transfer => 2
  | .survey => 3
  | .echo => 5
  | .done => 6
  | .state => 7

def readFrameKind (n : Nat) : Option FrameKind :=
  [FrameKind.load, .transfer, .survey, .echo, .done, .state].find? fun k => frameKindCode k = n

/-- The two bytes of an entry, high byte first: bit 15 is 0, bits 14 to 12 the slot, bits 11 to 0 the value (R183). -/
def entryBytes (e : Entry) : List Byte :=
  [BitVec.ofNat 8 (16 * e.slot.val + e.value / 256), BitVec.ofNat 8 e.value]

/-- Bytes 1 to 3 + 2n of a frame: what its CRC covers (R183). -/
def frameBody (f : Frame) : List Byte :=
  [BitVec.ofNat 8 (8 * f.address + frameKindCode f.kind), f.tag, BitVec.ofNat 8 f.entries.length] ++
    f.entries.flatMap entryBytes

/-- A CRC-16 as two bytes, high byte first (R183). -/
def crcBytes (t : List Byte) : List Byte :=
  [BitVec.ofNat 8 ((crc16 t).toNat / 256), BitVec.ofNat 8 (crc16 t).toNat]

/-- The bytes of a frame (R183). -/
def frameBytes (f : Frame) : List Byte := 0x5A#8 :: frameBody f ++ crcBytes (frameBody f)

/-- Reads `n` entries; none if bit 15 of one is set or the bytes do not make exactly `n` (R183). -/
def readEntries : Nat → List Byte → Option (List Entry)
  | 0, [] => some []
  | n + 1, hi :: lo :: rest =>
    if hi.toNat < 128 then
      (readEntries n rest).map fun es =>
        { slot := Fin.ofNat 8 (hi.toNat / 16), value := 256 * (hi.toNat % 16) + lo.toNat } :: es
    else none
  | _, _ => none

/-- Reads a received frame; none if it fails a test of R183 that does not look at what the part sent: a low stop bit, the start
byte, the length, the entry count, bit 15 of an entry, the CRC-16, or a kind code that is no kind. -/
def readFrame (bytes : List RxByte) : Option Frame :=
  if bytes.any RxByte.damaged then none
  else match bytes.map RxByte.value with
    | start :: head :: tag :: count :: rest =>
      let n := count.toNat
      let body := head :: tag :: count :: rest.take (2 * n)
      if start = 0x5A#8 ∧ n ≤ 8 ∧ rest.length = 2 * n + 2 ∧ rest.drop (2 * n) = crcBytes body then
        match readFrameKind (head.toNat % 8), readEntries n (rest.take (2 * n)) with
        | some kind, some entries => some { address := head.toNat / 8, kind, tag, entries }
        | _, _ => none
      else none
    | _ => none

/-- Slots in strictly ascending order (R93). -/
def ascending : List Entry → Bool
  | e :: f :: rest => decide (e.slot < f.slot) && ascending (f :: rest)
  | _ => true

/-- The reply kind that answers each step (R93). -/
def answerKind : Phase → FrameKind
  | .load => .echo
  | .transfer => .done
  | .survey => .state

/-- The frame kind that each step sends (section 5.4). -/
def askKind : Phase → FrameKind
  | .load => .load
  | .transfer => .transfer
  | .survey => .survey

/-- The entries of a reply that is well formed in answer to the exchange: address, kind and tag are those awaited and its slots
ascend (R93). A DONE must also carry exactly the loaded slots and a STATE all eight. -/
def wellFormedReply (address : Nat) (x : Exchange) (bytes : List RxByte) : Option (List Entry) :=
  match readFrame bytes with
  | none => none
  | some f =>
    let slotsRight := match x.phase with
      | .load => true
      | .transfer => decide (f.entries.map Entry.slot = x.loaded.map Entry.slot)
      | .survey => decide (f.entries.map Entry.slot = List.finRange 8)
    if f.address = address ∧ f.kind = answerKind x.phase ∧ f.tag = x.tag ∧ ascending f.entries = true ∧ slotsRight = true then
      some f.entries
    else none

/-- The value an entry list carries for a slot. -/
def entryFor (es : List Entry) (k : SlotNo) : Option Nat := (es.find? fun e => e.slot = k).map Entry.value

end Sys2Proof.Machine
end

