-- ==== Sys2Proof/Machine/Apply.lean ====
section
/-! DEFINITION. The Apply Engine: link controllers, APPLY and SURVEY exchanges, link strikes, failover and disqualification, and the
commands of the driver links and of the banks' deadlines (chapters Bank Exchanges and Link Failover). -/

namespace Sys2Proof.Machine

/-! ## Bank record updates -/

/-- Changes what a bank keeps for one link. -/
def BankRec.setLinkRec (r : BankRec) (k : LinkNo) (x : LinkRec) : BankRec := { r with links := r.links.set k x }

/-- A valid reply raises the success streak; at LINKDECAY it starts again from 0 and wears a strike away (R102). -/
def LinkRec.validReply (x : LinkRec) (linkdecay : Nat) : LinkRec :=
  if x.streak + 1 = linkdecay then { x with streak := 0, strikes := x.strikes - 1 } else { x with streak := x.streak + 1 }

/-- A failed attempt sets the success streak to 0 (R102). -/
def LinkRec.failedAttempt (x : LinkRec) : LinkRec := { x with streak := 0 }

def State.noteValidReply (s : State) (b : BankNo) (k : LinkNo) : State :=
  s.setBank b ((s.bank b).setLinkRec k (((s.bank b).links.get k).validReply s.settings.linkdecay))

def State.noteFailedAttempt (s : State) (b : BankNo) (k : LinkNo) : State :=
  s.setBank b ((s.bank b).setLinkRec k ((s.bank b).links.get k).failedAttempt)

/-! ## The link controller and the start of an exchange -/

/-- The slots of a bank whose bit in the pending set is set, in ascending order. -/
def BankRec.pendingSlots (r : BankRec) : List SlotNo := (List.finRange 8).filter fun k => r.pendingSet[k]

/-- A bank has work: pending slots, resync, or a survey due time that is reached; the survey interval runs from the instant of the
finish that set it (R95, R99, R186). -/
def BankRec.hasWork (r : BankRec) (clock : Moment) : Bool :=
  !r.pendingSlots.isEmpty || r.resync || (match r.surveyDue with | some e => clock.reached e | none => false)

/-- A bank is a candidate for link `k` (R95). -/
def State.candidate (s : State) (k : LinkNo) (b : BankNo) : Bool :=
  let r := s.bank b
  decide (r.state = .active) && decide (r.activeLink = some k) && r.exchange.isNone && r.hasWork s.clock

/-- The banks in the order in which a controller with this rotation pointer looks at them: from the one after the pointer,
wrapping from 7 to 0, the pointer's own bank last (R95). -/
def rotation (pointer : BankNo) : List BankNo := (List.finRange 8).map fun i => pointer + 1 + i

/-- The bank a link controller would serve next (R95). -/
def State.choice (s : State) (k : LinkNo) : Option BankNo := (rotation (s.link k).pointer).find? (s.candidate k)

/-- The module address the part puts into every frame for a bank (R85). -/
def BankRec.address (r : BankRec) : Nat := (r.defn.map BankDef.address).getD 0

/-- The frame of the step an exchange is in (R96, R97, R100). -/
def exchangeFrame (address : Nat) (x : Exchange) : Frame :=
  { address, kind := askKind x.phase, tag := x.tag, entries := match x.phase with | .load => x.loaded | _ => [] }

/-- The exchange record of a bank becomes `x`, and the controller sends the frame of its step. -/
def State.sendStep (s : State) (k : LinkNo) (b : BankNo) (x : Exchange) : State :=
  let s := s.setBank b { s.bank b with exchange := some x }
  s.setLink k { s.link k with
    transaction := some { bank := b, frame := exchangeFrame (s.bank b).address x, wait := .sending } }

/-- The slots an APPLY loads, in ascending order: every defined slot with resync set, the pending set otherwise (R96). -/
def State.slotsToLoad (s : State) (b : BankNo) : List SlotNo :=
  (List.finRange 8).filter fun k =>
    (s.point (pointAt b k)).defined && ((s.bank b).resync || (s.bank b).pendingSet[k])

/-- The entries an APPLY loads: the current targets of its slots (R96). -/
def State.entriesToLoad (s : State) (b : BankNo) : List Entry :=
  (s.slotsToLoad b).filterMap fun k => (s.point (pointAt b k)).target.map fun v => { slot := k, value := v }

/-- The start of an APPLY (R96): the tag advances, the targets are read, the pending set is emptied and resync cleared, every
loaded point goes to LOADING (R12), and the LOAD frame is sent. -/
def State.startApply (s : State) (k : LinkNo) (b : BankNo) : State :=
  let loaded := s.entriesToLoad b
  let x : Exchange := { phase := .load, tag := (s.bank b).tag + 1#8, loaded, attempt := .first, link := k }
  let s := s.updatePoints fun p r member =>
    if bankOf p = b then (if (entryFor loaded (slotOf p)).isSome then { r with state := .loading } else r, false)
    else (r, member)
  let s := s.setBank b { s.bank b with tag := x.tag, resync := false }
  s.sendStep k b x

/-- The start of a SURVEY: the tag is not advanced and no point moves (R100). -/
def State.startSurvey (s : State) (k : LinkNo) (b : BankNo) : State :=
  s.sendStep k b { phase := .survey, tag := (s.bank b).tag, loaded := [], attempt := .first, link := k }

/-- The controller sets its pointer to the chosen bank and starts an APPLY if the bank has pending slots or resync, a SURVEY
otherwise (R95). -/
def State.startExchange (s : State) (k : LinkNo) (b : BankNo) : State :=
  let s := s.setLink k { s.link k with pointer := b, settledAt := none }
  if !(s.bank b).pendingSlots.isEmpty || (s.bank b).resync then s.startApply k b else s.startSurvey k b

/-- The device time at which a bank in this state becomes ACTIVE by its settle deadline, or falls due for a SURVEY. -/
def BankRec.deadlineAt (r : BankRec) : Option Time :=
  match r.state with
  | .warming | .switching => r.settle.map Moment.ms
  | .active => r.surveyDue.map Moment.ms
  | _ => none

/-- The deadline of bank `b` falls at device time `d`, which has come, and is still to be taken: a settle deadline whose command is still
to come, or a survey due time later in this very millisecond, of a bank that has no work before it. -/
def State.stillToCome (s : State) (b : BankNo) (d : Time) : Bool :=
  match (s.bank b).state with
  | .warming | .switching => reached s.now d
  | .active => decide (d = s.now) && !(s.bank b).hasWork s.clock
  | _ => false

/-- A deadline of bank `b` at device time `d` falls together with another of link `k`: with the settle deadline last taken, or with one
of another bank. -/
def State.sharesDeadline (s : State) (k : LinkNo) (b : BankNo) (d : Time) : Bool :=
  decide ((s.link k).settledAt = some d) ||
    (List.finRange 8).any fun e => decide (e ≠ b) && decide ((s.bank e).activeLink = some k) &&
      decide ((s.bank e).deadlineAt = some d)

/-- Link `k` holds its choice back: several settle deadlines or survey due times fall at the same device time, and one of them is still
to be taken (R95, log entry 7). -/
def State.heldBack (s : State) (k : LinkNo) : Bool :=
  (List.finRange 8).any fun b => decide ((s.bank b).activeLink = some k) && match (s.bank b).deadlineAt with
    | some d => s.stillToCome b d && s.sharesDeadline k b d
    | none => false

/-- Link `k`, if no exchange is in flight on it, some bank is a candidate, and no deadline that falls together with others is still to be
taken, starts an exchange (R95). -/
def State.serveLink (s : State) (k : LinkNo) : State :=
  if (s.link k).transaction.isSome || s.heldBack k then s
  else match s.choice k with
    | none => s
    | some b => s.startExchange k b

/-- Both controllers make their choice, each among the banks of its own link (R95). -/
def State.serveLinks (s : State) : State := (s.serveLink .one).serveLink .two

/-! ## Link strikes, failover and disqualification -/

/-- The number of the bank's links now marked FAILED (R109). -/
def BankRec.failedLinks (r : BankRec) : Nat :=
  ([LinkNo.one, .two].filter fun k => (r.links.get k).mark = .failed).length

/-- The failover onto the other link (R110). -/
def State.failover (s : State) (b : BankNo) (k : LinkNo) : State :=
  let s := s.setBank b { s.bank b with
    activeLink := some k.other, state := .switching, settle := some (s.expiry s.settings.settle) }
  s.append { code := .failover, bank := some b, link := some k.other, values := [linkNumber k] }

/-- The disqualification of a bank (R115, R116). -/
def State.disqualify (s : State) (b : BankNo) (k : LinkNo) : State :=
  let made := s.definedIn b
  let s := s.setBank b { s.bank b with
    state := .disqualified, enable := false, pendingSet := noSlots, resync := false, activeLink := none, settle := none,
    surveyDue := none }
  let s := s.updatePoints fun p r member =>
    if bankOf p = b ∧ r.defined = true then ({ r with state := .off, applied := none }, member) else (r, member)
  s.append { code := .bankDisqualified, bank := some b, link := some k, point := made.head?, values := [made.length] }

/-- The failure of a link for a bank: its count is 0 and its mark FAILED, LINK_FAILED is appended, and the bank fails over or is
disqualified (R103, R109). -/
def State.failLink (s : State) (b : BankNo) (k : LinkNo) (cause : Cause) : State :=
  let s := s.setBank b ((s.bank b).setLinkRec k { mark := .failed, strikes := 0, streak := 0 })
  let n := (s.bank b).failedLinks
  let s := s.append { code := .linkFailed, bank := some b, link := some k, cause := some cause, values := [n] }
  if ((s.bank b).links.get k.other).mark = .good then s.failover b k else s.disqualify b k

/-- A link strike, its EXCHANGE_FAIL record first (R103). -/
def State.strikeLink (s : State) (b : BankNo) (k : LinkNo) (cause : Cause) (tag : Byte) (point : Option PointNo)
    (slots : Nat) : State :=
  let x := (s.bank b).links.get k
  let s := s.append { code := .exchangeFail, bank := some b, link := some k, point, cause := some cause,
                      values := [tag.toNat, slots, x.strikes + 1] }
  if x.strikes + 1 = s.settings.linkstrikes then s.failLink b k cause
  else s.setBank b ((s.bank b).setLinkRec k { x with strikes := x.strikes + 1, streak := 0 })

/-! ## The end of an exchange -/

/-- How an exchange ended: without failure, with SENSE failures on some points, or abandoned by the failure of attempt 2. -/
inductive Ending where
  | clean
  | sense (points : List PointNo)
  | abandoned (f : Failure)
  deriving DecidableEq, Repr

/-- Steps 2 to 5 of the finish of an exchange (R99, R101): survey due time, no exchange in flight, strike, next choice. -/
def State.finish (s : State) (k : LinkNo) (b : BankNo) (x : Exchange) (e : Ending) : State :=
  let s := s.setBank b { s.bank b with surveyDue := some (s.expiry s.settings.survey), exchange := none }
  let s := s.setLink k { s.link k with transaction := none }
  let s := match e with
    | .clean => s
    | .sense ps => s.strikeLink b k (.exchange x.phase .sense) x.tag ps.head? ps.length
    | .abandoned f => s.strikeLink b k (.exchange x.phase f) x.tag none 0
  s.serveLink k

/-- A loaded point is reconciled against its target as it stands now (R13). -/
def reconcile (r : PointRec) : PointRec × Bool :=
  if r.applied.isSome ∧ r.applied = r.target then ({ r with state := .settled }, false)
  else ({ r with state := .pending }, true)

/-- Step 1 of the finish of an APPLY: `applied` gives the applied value of each loaded slot from its entry and record; every loaded
point is then reconciled (R13, R99). -/
def State.reconcileLoaded (s : State) (b : BankNo) (loaded : List Entry)
    (applied : SlotNo → Nat → PointRec → Option Nat) : State :=
  s.updatePoints fun p r member =>
    if bankOf p = b then
      match entryFor loaded (slotOf p) with
      | some v => reconcile { r with applied := applied (slotOf p) v r }
      | none => (r, member)
    else (r, member)

/-- Whether a sensed value lies within the point's tolerance of `v` (R98, R101). -/
def senses (sensed : List Entry) (k : SlotNo) (v : Nat) (r : PointRec) : Bool :=
  match entryFor sensed k with
  | some w => decide (apart w v ≤ r.tol)
  | none => false

/-- The points of the loaded entries whose sensed value is beyond tolerance (R98). -/
def State.senseFailures (s : State) (b : BankNo) (loaded sensed : List Entry) : List PointNo :=
  (loaded.filter fun e => !senses sensed e.slot e.value (s.point (pointAt b e.slot))).map fun e => pointAt b e.slot

/-- An abandoned APPLY or SURVEY: in the LOAD step and in a SURVEY every applied value stays, in the TRANSFER step those of the
loaded slots are made absent (R13, R14, R97, R98). -/
def State.abandon (s : State) (k : LinkNo) (b : BankNo) (x : Exchange) (f : Failure) : State :=
  let s := match x.phase with
    | .load => s.reconcileLoaded b x.loaded fun _ _ r => r.applied
    | .transfer => s.reconcileLoaded b x.loaded fun _ _ _ => none
    | .survey => s
  s.finish k b x (.abandoned f)

/-- A failed attempt: the streak is 0; on attempt 1 the same frame is sent again, on attempt 2 the exchange is abandoned (R97, R98,
R100, R102). -/
def State.attemptFails (s : State) (k : LinkNo) (b : BankNo) (x : Exchange) (f : Failure) : State :=
  let s := s.noteFailedAttempt b k
  match x.attempt with
  | .first => s.sendStep k b { x with attempt := .second }
  | .second => s.abandon k b x f

/-- A well-formed ECHO: equal to the entries sent it completes the LOAD step, otherwise the attempt fails (R93, R97). -/
def State.judgeEcho (s : State) (k : LinkNo) (b : BankNo) (x : Exchange) (es : List Entry) : State :=
  if es = x.loaded then
    (s.noteValidReply b k).sendStep k b { x with phase := .transfer, attempt := .first }
  else s.attemptFails k b x .echo

/-- A well-formed DONE (R98): each loaded slot is confirmed or fails, and the exchange finishes. -/
def State.judgeDone (s : State) (k : LinkNo) (b : BankNo) (x : Exchange) (es : List Entry) : State :=
  let bad := s.senseFailures b x.loaded es
  let s := if bad.isEmpty then s.noteValidReply b k else s.noteFailedAttempt b k
  let s := s.reconcileLoaded b x.loaded fun slot v r => if senses es slot v r then some v else none
  s.finish k b x (if bad.isEmpty then .clean else .sense bad)

/-- The points a STATE finds beyond tolerance: defined, with an applied value present (R14, R101). -/
def State.surveyFailures (s : State) (b : BankNo) (es : List Entry) : List PointNo :=
  (bankPoints b).filter fun p =>
    match (s.point p).defined, (s.point p).applied with
    | true, some v => !senses es (slotOf p) v (s.point p)
    | _, _ => false

/-- A well-formed STATE (R101). -/
def State.judgeState (s : State) (k : LinkNo) (b : BankNo) (x : Exchange) (es : List Entry) : State :=
  let bad := s.surveyFailures b es
  let s := if bad.isEmpty then s.noteValidReply b k else s.noteFailedAttempt b k
  let s := s.updatePoints fun p r member =>
    if p ∈ bad then ({ r with applied := none, state := .pending }, true) else (r, member)
  s.finish k b x (if bad.isEmpty then .clean else .sense bad)

/-- The awaited reply is judged (R93). -/
def State.judge (s : State) (k : LinkNo) (b : BankNo) (x : Exchange) (bytes : List RxByte) : State :=
  match wellFormedReply (s.bank b).address x bytes with
  | none => s.attemptFails k b x .check
  | some es => match x.phase with
    | .load => s.judgeEcho k b x es
    | .transfer => s.judgeDone k b x es
    | .survey => s.judgeState k b x es

/-- The bank and exchange whose reply link `k` awaits, if its reply timer runs (R92). -/
def State.awaited (s : State) (k : LinkNo) : Option (BankNo × Exchange) :=
  match (s.link k).transaction with
  | some { bank := b, frame := _, wait := .awaiting _ } => (s.bank b).exchange.map fun x => (b, x)
  | _ => none

/-! ## The commands of the driver links -/

/-- The last byte of the part's frame ends: the reply timer starts (R92). That a discard which an expiry left in force stays past the
part's own frame, until DRIVER_FRAME_RECEIVED brings the end of a module frame, is the model's choice (R183, log entry 11). -/
def State.frameSent (s : State) (k : LinkNo) : State :=
  match (s.link k).transaction with
  | some t =>
    match t.wait with
    | .sending => s.setLink k { s.link k with
        transaction := some { t with wait := .awaiting (s.clock.after (Config.replyUnit * s.settings.replytime)) } }
    | .awaiting _ => s
  | none => s

/-- The reply timer of link `k` runs and has reached its expiry (R92, log entry 3). -/
def State.replyDue (s : State) (k : LinkNo) : Bool :=
  match (s.link k).transaction with
  | some { bank := _, frame := _, wait := .awaiting e } => s.clock.reached e
  | _ => false

/-- The reply timer expires: the attempt fails with TIMEOUT, and a frame still arriving will be discarded (R92). -/
def State.replyTimeout (s : State) (k : LinkNo) (midFrame : Bool) : State :=
  match s.replyDue k, s.awaited k with
  | true, some (b, x) => (s.setLink k { s.link k with discardNext := midFrame }).attemptFails k b x .timeout
  | _, _ => s

/-- A frame is complete: discarded if it was arriving at an expiry, ignored if no transaction awaits it, judged otherwise (R92). That the
first frame to end after that expiry takes up the discard, even while the part itself is sending (R183), is the model's choice; that a
frame is judged when it completes during a later wait, although the wait it answers was ended by an expiry before its first byte or by a
RESTART, is the model's reading (log entry 11). -/
def State.frameReceived (s : State) (k : LinkNo) (bytes : List RxByte) : State :=
  if (s.link k).discardNext then s.setLink k { s.link k with discardNext := false }
  else match s.awaited k with
    | none => s
    | some (b, x) => s.judge k b x bytes

/-! ## The deadlines of banks -/

/-- The end of WARMING or SWITCHING at a settle deadline of device time `d`: the bank becomes ACTIVE with resync set and no settle
deadline, and the controller of its active link may start an exchange (R91, R95, R113). -/
def State.settled (s : State) (b : BankNo) (d : Time) : State :=
  let s := s.setBank b { s.bank b with state := .active, resync := true, settle := none }
  match (s.bank b).activeLink with
  | none => s
  | some k => (s.setLink k { s.link k with settledAt := some d }).serveLink k

/-- The settle deadline of a bank in the state `st` is reached. -/
def State.settleReached (s : State) (b : BankNo) (st : BankState) : State :=
  match (s.bank b).settle with
  | some e => if (s.bank b).state = st ∧ s.clock.reached e = true then s.settled b e.ms else s
  | none => s

/-- A WARMING bank's settle deadline is reached (R91). -/
def State.warmingSettles (s : State) (b : BankNo) : State := s.settleReached b .warming

/-- A SWITCHING bank's settle deadline is reached (R113). -/
def State.switchingSettles (s : State) (b : BankNo) : State := s.settleReached b .switching

/-- A bank's survey due time is reached: the controller of its link may start an exchange (R95). -/
def State.surveyFallsDue (s : State) (b : BankNo) : State :=
  match (s.bank b).surveyDue, (s.bank b).activeLink with
  | some e, some k => if (s.bank b).state = .active ∧ s.clock.reached e = true then s.serveLink k else s
  | _, _ => s

/-- DRIVER_FRAME_SENT (R92). -/
def execDriverFrameSent (dt : Nat) (k : LinkNo) (s : State) : Host.Outcome State Fault Refusal :=
  happens dt s fun s => s.frameSent k

/-- REPLY_TIMER_EXPIRY (R92). -/
def execReplyTimerExpiry (dt : Nat) (k : LinkNo) (midFrame : Bool) (s : State) : Host.Outcome State Fault Refusal :=
  happens dt s fun s => s.replyTimeout k midFrame

/-- DRIVER_FRAME_RECEIVED (R92, R93). -/
def execDriverFrameReceived (dt : Nat) (k : LinkNo) (bytes : List RxByte) (s : State) : Host.Outcome State Fault Refusal :=
  happens dt s fun s => s.frameReceived k bytes

/-- WARMING_SETTLE_DEADLINE (R91). -/
def execWarmingSettleDeadline (dt : Nat) (b : BankNo) (s : State) : Host.Outcome State Fault Refusal :=
  happens dt s fun s => s.warmingSettles b

/-- SWITCHING_SETTLE_DEADLINE (R113). -/
def execSwitchingSettleDeadline (dt : Nat) (b : BankNo) (s : State) : Host.Outcome State Fault Refusal :=
  happens dt s fun s => s.switchingSettles b

/-- SURVEY_DUE (R95). -/
def execSurveyDue (dt : Nat) (b : BankNo) (s : State) : Host.Outcome State Fault Refusal :=
  happens dt s fun s => s.surveyFallsDue b

end Sys2Proof.Machine
end

