-- ==== Sys2Proof/Machine/Voter.lean ====
section
/-! DEFINITION. The Round Voter: the collecting round, the vote on a point, and the close of a round up to its findings
(chapter Vote Rounds). -/

namespace Sys2Proof.Machine

/-! ## The collecting round -/

/-- A lane's stage slot for a point (R19). -/
def Collecting.slot (c : Collecting) (l : Lane) (p : PointNo) : Option Nat := (c.slots.get l)[p]

/-- Stores a value into a stage slot, replacing any value already there (R20). -/
def Collecting.put (c : Collecting) (l : Lane) (p : PointNo) (v : Nat) : Collecting :=
  { c with slots := c.slots.set l ((c.slots.get l).set p (some v)) }

/-- The withdrawal of a lane: its slots are emptied and it leaves the seal set; an empty seal set stops the timer (R27). -/
def Collecting.withdraw (c : Collecting) (l : Lane) : Collecting :=
  let sealed := c.sealed.set l false
  { slots := c.slots.set l (Vector.replicate 64 none), sealed,
    timer := if sealed = noLanes then none else c.timer }

/-- The lane's contribution is withdrawn from the collecting round, if there is one (R27). -/
def State.withdraw (s : State) (l : Lane) : State := { s with collecting := s.collecting.map fun c => c.withdraw l }

/-- The lane joins the seal set and a stopped round timer starts (R25). -/
def Collecting.seal (c : Collecting) (l : Lane) (expiry : Moment) : Collecting :=
  { c with sealed := c.sealed.set l true, timer := some (c.timer.getD expiry) }

/-- The round is ready to close: some voter has sealed and every voter has (R25). -/
def State.ready (s : State) (c : Collecting) : Bool :=
  (Lane.all.any fun l => (s.role l).voting && c.sealed.get l) &&
    Lane.all.all fun l => !(s.role l).voting || c.sealed.get l

/-- The voters at a close: the lanes in STANDBY or IN_CONTROL that are in the seal set (R31). -/
def State.voters (s : State) (c : Collecting) : LaneSet := PerLane.ofFn fun l => (s.role l).voting && c.sealed.get l

/-! ## The vote on one point -/

/-- The outcomes of a point at close (R32 to R34). -/
inductive VoteOutcome where
  | agree | majority | nomajority | pair | split | sole | empty
  deriving DecidableEq, Repr

/-- The result of the vote on a point: its outcome, the new target if the outcome gives one, and the lane marked as a dissenter. -/
structure PointVote where
  outcome : VoteOutcome
  target : Option Nat
  dissenter : Option Lane
  deriving DecidableEq, Repr

/-- The median of three opinions (R32). -/
def median3 (x y z : Nat) : Nat := max (min x y) (min (max x y) z)

/-- The vote with three voters (R32). -/
def voteThree (tol : Nat) (opinions : List (Lane × Nat)) (m : Nat) : PointVote :=
  match opinions.filter fun o => tol < apart o.2 m with
  | [] => { outcome := .agree, target := some m, dissenter := none }
  | [o] => { outcome := .majority, target := some m, dissenter := some o.1 }
  | _ => { outcome := .nomajority, target := none, dissenter := none }

/-- The vote with two voters: `ref` is the reference lane's opinion, the new target for PAIR and for SPLIT alike (R33, R34 and worked
example 2.9). R10 says of SPLIT that the target stays; that the model follows R33 is its own choice (log entry 18). -/
def voteTwo (tol ref other : Nat) : PointVote :=
  { outcome := if apart other ref ≤ tol then .pair else .split, target := some ref, dissenter := none }

/-- The vote on a point from the voters' opinions in the lane order A, B, C; `control` is the lane in control (R31 to R34). -/
def votePoint (tol : Nat) (control : Option Lane) (opinions : List (Lane × Nat)) : PointVote :=
  match opinions with
  | [] => { outcome := .empty, target := none, dissenter := none }
  | [o] => { outcome := .sole, target := some o.2, dissenter := none }
  | [o, q] => if control = some q.1 then voteTwo tol q.2 o.2 else voteTwo tol o.2 q.2
  | [o, q, r] => voteThree tol opinions (median3 o.2 q.2 r.2)
  | _ => { outcome := .empty, target := none, dissenter := none }

/-- A lane's opinion on a point: the value in its stage slot, or else the point's current target (R31). -/
def Collecting.opinion (c : Collecting) (l : Lane) (p : PointNo) (target : Nat) : Nat := (c.slot l p).getD target

/-- The vote on each point at the close of `c`; none for an UNDEFINED point, which is not voted (R31). -/
def State.voteOn (s : State) (c : Collecting) (p : PointNo) : Option PointVote :=
  match (s.point p).defn, (s.point p).target with
  | some d, some t =>
    some (votePoint d.tol s.control (((s.voters c).members).map fun l => (l, c.opinion l p t)))
  | _, _ => none

/-! ## Taking the results -/

/-- Whether the outcome raises the split count (R10). -/
def VoteOutcome.splits : VoteOutcome → Bool
  | .nomajority | .split => true
  | _ => false

/-- A point takes its result: target write and last change round, then split count (R10). -/
def takeResult (round : Nat) (v : PointVote) (r : PointRec) (member : Bool) : PointRec × Bool :=
  let (r, member) := match v.target with
    | some t =>
      if changesTarget t r then
        let (q, m) := writeTarget t r member
        ({ q with changed := some round }, m)
      else (r, member)
    | none => (r, member)
  (if v.outcome.splits then { r with splits := min (r.splits + 1) Config.maxSplits } else r, member)

/-- The votes of a close, one for each point. -/
abbrev Votes := Vector (Option PointVote) 64

/-- The points, in ascending order, whose vote satisfies `f`. -/
def Votes.where_ (vs : Votes) (f : PointVote → Bool) : List PointNo :=
  (List.finRange 64).filter fun p => match vs[p] with
    | some v => f v
    | none => false

/-- The points on which a lane is marked as a dissenter (R32, R36). -/
def Votes.dissents (vs : Votes) (l : Lane) : List PointNo := vs.where_ fun v => v.dissenter = some l

/-- The points whose target changes at the close (R10, R35). -/
def State.changedBy (s : State) (vs : Votes) : List PointNo :=
  (List.finRange 64).filter fun p => match vs[p] with
    | some { outcome := _, target := some t, dissenter := _ } => changesTarget t (s.point p)
    | _ => false

/-! ## Findings -/

/-- The findings about the lanes (R36, R37). -/
inductive Finding where
  | late (l : Lane)
  | dissent (l : Lane) (lowest : PointNo) (count : Nat)
  | clean (l : Lane)
  | probClean (l : Lane)
  | probFailed (l : Lane) (point : Option PointNo)
  deriving DecidableEq, Repr

/-- The points on which a PROBATION lane's opinion lies beyond tolerance of the target after the close (R37). -/
def State.disagreements (s : State) (c : Collecting) (vs : Votes) (l : Lane) : List PointNo :=
  (List.finRange 64).filter fun p => match (s.point p).defn, (s.point p).target, vs[p] with
    | some d, some t, some v => d.tol < apart (c.opinion l p t) (v.target.getD t)
    | _, _, _ => false

/-- The probation result of a lane (R37). -/
def State.probationResult (s : State) (c : Collecting) (vs : Votes) (l : Lane) : Finding :=
  if c.sealed.get l then
    match s.disagreements c vs l with
    | [] => .probClean l
    | p :: _ => .probFailed l (some p)
  else .probFailed l none

/-- The lanes that are late: in STANDBY or IN_CONTROL and not in the seal set (R36). -/
def State.lateLanes (s : State) (c : Collecting) : LaneSet :=
  PerLane.ofFn fun l => (s.role l).voting && !c.sealed.get l

/-- The voters marked as dissenters on at least one point (R36). -/
def State.dissenters (s : State) (c : Collecting) (vs : Votes) : LaneSet :=
  PerLane.ofFn fun l => (s.voters c).get l && !(vs.dissents l).isEmpty

/-- The findings of a close as one ordered batch: LATE, DISSENT, clean, probation results, each in lane order (R36 to R38). -/
def State.findings (s : State) (c : Collecting) (vs : Votes) : List Finding :=
  (s.lateLanes c).members.map .late ++
  (s.dissenters c vs).members.filterMap (fun l =>
    match vs.dissents l with
    | [] => none
    | p :: ps => some (.dissent l p (ps.length + 1))) ++
  ((s.voters c).members.filter fun l => (vs.dissents l).isEmpty).map .clean ++
  (if s.voters c = noLanes then [] else (Lane.all.filter fun l => s.role l = .probation).map (s.probationResult c vs))

/-! ## The close -/

/-- The round number after `n`: 1 follows 65535 (R18). -/
def roundAfter (n : Nat) : Nat := if n = Config.maxRound then 1 else n + 1

/-- The record the Round Voter appends for points with one outcome, if there are any (R39). -/
def State.appendOutcome (s : State) (code : Code) (ps : List PointNo) : State :=
  match ps with
  | [] => s
  | p :: _ => s.append { code, round := some s.round, point := some p, values := [ps.length] }

/-- The summary of a close (R41). -/
def State.summarise (s : State) (c : Collecting) (vs : Votes) (cause : CloseCause) : Summary :=
  { round := s.round, cause, time := s.now, voters := s.voters c, late := s.lateLanes c, dissenters := s.dissenters c vs,
    changed := (s.changedBy vs).length,
    nomajority := (vs.where_ fun v => v.outcome = .nomajority).length,
    split := (vs.where_ fun v => v.outcome = .split).length }

/-- The close of the collecting round `c` up to the delivery of its findings: results (R35), the Round Voter's records (R39), the
advance (R40), the summary (R41). -/
def State.closeVotes (s : State) (c : Collecting) (cause : CloseCause) (vs : Votes) : State :=
  let s1 := s.updatePoints fun p r member => match vs[p] with
    | some v => takeResult s.round v r member
    | none => (r, member)
  let s2 := s1.appendOutcome .nomajority (vs.where_ fun v => v.outcome = .nomajority)
  let s3 := s2.appendOutcome .split (vs.where_ fun v => v.outcome = .split)
  { s3 with round := roundAfter s.round, collecting := some Collecting.empty, summary := some (s.summarise c vs cause) }

/-- The votes of the close of `c` (R31). -/
def State.votes (s : State) (c : Collecting) : Votes := Vector.ofFn fun p => s.voteOn c p

end Sys2Proof.Machine
end

