-- ==== Sys2Proof/Machine/Supervisor.lean ====
section
/-! DEFINITION. The Lane Supervisor: roles, strikes, suspension and exclusion, control, departures, the findings batch, and SAFE entry
(chapters Lane Roles and Control, Lane Power Loss, Modes). -/

namespace Sys2Proof.Machine

/-! ## Lane record updates -/

/-- Starts a lane's quiet timer (R58). -/
def LaneRec.startQuiet (r : LaneRec) (expiry : Moment) : LaneRec := { r with quiet := some expiry }

/-- Restarts a running quiet timer (R58). -/
def LaneRec.restartQuiet (r : LaneRec) (expiry : Moment) : LaneRec := { r with quiet := r.quiet.map fun _ => expiry }

/-- What every lane that leaves the vote loses: strikes, streak, probation counters and the running of its quiet timer
(R51, R55, R56, R60, R66, R75). -/
def LaneRec.unseat (r : LaneRec) : LaneRec :=
  { r with strikes := 0, streak := 0, probClean := 0, probFails := 0, quiet := none }

/-- What ends a hold: deadline, role before hold and carried values become absent (R73, R79, R80). -/
def LaneRec.endHold (r : LaneRec) : LaneRec :=
  { r with holdDeadline := none, roleBefore := none, carriedStrikes := none, carriedStreak := none }

/-- A lane made IN_CONTROL by START or RESUME (R67). -/
def LaneRec.takeOffice (r : LaneRec) (expiry : Moment) : LaneRec :=
  { r with role := .inControl, strikes := 0, streak := 0, probClean := 0, probFails := 0, suspendedUntil := none,
           quiet := some expiry }

/-- A lane record after a RESTART (R68, R83): the power fields and the confirm timer are kept. -/
def LaneRec.restarted (r : LaneRec) : LaneRec :=
  { r.unseat.endHold with role := if r.role = .excluded then .excluded else .absent }

/-! ## Control -/

/-- The control assignment rule: with no lane IN_CONTROL the first STANDBY lane in the order A, B, C takes control (R63). -/
def State.assignControl (s : State) : State :=
  match s.control, Lane.all.find? fun l => s.role l = .standby with
  | none, some l =>
    (s.setLane l { s.lane l with role := .inControl }).append
      { code := .control, lane := some l, round := some s.round, cause := some .assign }
  | _, _ => s

/-! ## SAFE entry -/

/-- A point takes its safe value at SAFE entry; a change by it leaves no last change round (R11). -/
def writeSafe (r : PointRec) (member : Bool) : PointRec × Bool :=
  match r.defn with
  | none => (r, member)
  | some d =>
    if changesTarget d.safe r then
      let (q, m) := writeTarget d.safe r member
      ({ q with changed := none }, m)
    else (r, member)

/-- The defined points whose target SAFE entry changes (R135). -/
def State.safeChanges (s : State) : List PointNo :=
  (List.finRange 64).filter fun p => match (s.point p).defn with
    | some d => changesTarget d.safe (s.point p)
    | none => false

/-- A PROBATION lane goes to ABSENT at SAFE entry, with a LEFT record of cause SAFE (R66). -/
def State.dismiss (s : State) (l : Lane) : State :=
  if s.role l = .probation then
    (s.setLane l { (s.lane l).unseat with role := .absent }).append
      { code := .left, lane := some l, cause := some .safe }
  else s

/-- SAFE entry in the order of R135; `l` is the lane whose departure or expiry ended the last role, `why` the code of the record
that ended it. -/
def State.enterSafe (s : State) (l : Lane) (why : Code) : State :=
  let s := { s with mode := .safe, collecting := none }
  let s := ((s.dismiss .a).dismiss .b).dismiss .c
  let n := s.safeChanges.length
  let s := s.updatePoints fun _ r member => writeSafe r member
  s.append { code := .safeEntered, lane := some l, round := some s.round, cause := some (.code why), values := [n] }

/-- Whether some lane is STANDBY, IN_CONTROL or HELD (R66). -/
def State.keepsRun (s : State) : Bool := Lane.all.any fun l => (s.role l).voting || decide (s.role l = .held)

/-- The SAFE condition, checked at every event that takes a lane out of STANDBY, IN_CONTROL or HELD (R66). -/
def State.safeCheck (s : State) (l : Lane) (why : Code) : State :=
  if s.mode = .run ∧ s.keepsRun = false then s.enterSafe l why else s

/-! ## Suspension and exclusion -/

/-- A lane is excluded, with the EXCLUDED record (R56, R73). -/
def State.exclude (s : State) (l : Lane) (cause : Cause) : State :=
  let r := s.lane l
  (s.setLane l { r.unseat.endHold with role := .excluded, suspendedUntil := none }).append
    { code := .excluded, lane := some l, cause := some cause, values := [r.suspensions] }

/-- The lane record and record of a suspension: SUSPENDED for SUSPEND milliseconds, or EXCLUDED when the count reaches SUSPLIMIT
(R55). What follows for a departing voter is `departed` or `departedInBatch`. -/
def State.suspend (s : State) (l : Lane) (cause : SuspendCause) : State :=
  let n := (s.lane l).suspensions + 1
  let s := s.setLane l { s.lane l with suspensions := n }
  if s.settings.susplimit ≤ n then s.exclude l .limit
  else
    (s.setLane l { (s.lane l).unseat.endHold with
      role := .suspended, suspendedUntil := some (s.deadline s.settings.suspend) }).append
      { code := .suspended, lane := some l, cause := some (.suspend cause), values := [n, s.settings.suspend] }

/-- The code of the record that ended a lane's role, read from the role it now has (R135). -/
def State.endingCode (s : State) (l : Lane) : Code :=
  match s.role l with
  | .suspended => .suspended
  | .excluded => .excluded
  | _ => .left

/-! ## The findings batch -/

/-- Steps 2 to 5 of a departure that a finding of a close causes. The new round is empty, so step 4 does not close it (R64). -/
def State.departedInBatch (s : State) (l : Lane) : State :=
  ((s.withdraw l).assignControl).safeCheck l (s.endingCode l)

/-- A strike: the count rises by 1 and the streak is 0; whether the count has reached STRIKES is the caller's to look at (R51). -/
def LaneRec.struck (r : LaneRec) : LaneRec := { r with strikes := r.strikes + 1, streak := 0 }

/-- A strike charged by a finding; at STRIKES the lane is suspended and departs (R51, R52). -/
def State.strikeInBatch (s : State) (l : Lane) : State :=
  let s := s.setLane l (s.lane l).struck
  if (s.lane l).strikes = s.settings.strikes then (s.suspend l .strikes).departedInBatch l else s

/-- A clean-round notice: the streak rises; at DECAY it is 0 and a strike is worn away (R54). -/
def LaneRec.cleanRound (r : LaneRec) (decay : Nat) : LaneRec :=
  if r.streak + 1 = decay then { r with streak := 0, strikes := r.strikes - 1 } else { r with streak := r.streak + 1 }

/-- A probation result CLEAN; the one that completes the probation makes the lane STANDBY (R48). -/
def State.probationClean (s : State) (round : Nat) (l : Lane) : State :=
  let n := (s.lane l).probClean + 1
  if n = s.settings.probation then
    ((s.setLane l { s.lane l with
        role := .standby, probClean := 0, probFails := 0, strikes := 0, streak := 0 }).append
      { code := .qualified, lane := some l, round := some round }).assignControl
  else s.setLane l { s.lane l with probClean := n }

/-- A probation result FAILED; the PROBFAIL-th suspends the lane, whose contribution is withdrawn (R27, R49). -/
def State.probationFailed (s : State) (round : Nat) (l : Lane) (point : Option PointNo) : State :=
  let n := (s.lane l).probFails + 1
  let s := (s.setLane l { s.lane l with probClean := 0, probFails := n }).append
    { code := .probationMiss, lane := some l, round := some round, point, values := [n] }
  if n = s.settings.probfail then
    ((s.setLane l { s.lane l with probFails := 0 }).suspend l .probation).withdraw l
  else s

/-- The Lane Supervisor takes one finding of the close of `round`, whole (R52). A finding for a lane that is no longer in a role it
concerns has no effect (R50). -/
def State.takeFinding (round : Nat) (s : State) (f : Finding) : State :=
  match f with
  | .late l =>
    if (s.role l).voting then
      (s.append { code := .late, lane := some l, round := some round, values := [(s.lane l).strikes + 1] }).strikeInBatch l
    else s
  | .dissent l p n =>
    if (s.role l).voting then
      (s.append { code := .dissent, lane := some l, round := some round, point := some p,
                  values := [n, (s.lane l).strikes + 1] }).strikeInBatch l
    else s
  | .clean l =>
    if (s.role l).voting then s.setLane l ((s.lane l).cleanRound s.settings.decay) else s
  | .probClean l => if s.role l = .probation then s.probationClean round l else s
  | .probFailed l p => if s.role l = .probation then s.probationFailed round l p else s

/-- The collecting round closes: vote, results, records, advance and summary, then the findings batch (R35 to R41, R52). -/
def State.closeRound (s : State) (c : Collecting) (cause : CloseCause) : State :=
  let vs := s.votes c
  (s.findings c vs).foldl (State.takeFinding s.round) (s.closeVotes c cause vs)

/-! ## Departures -/

/-- The close condition is evaluated; a ready round closes (R25, R28). -/
def State.closeIfReady (s : State) (cause : CloseCause) : State :=
  match s.collecting with
  | none => s
  | some c => if s.ready c then s.closeRound c cause else s

/-- Steps 2 to 5 of the departure of a voter, after its new role and record are written (R64): withdrawal, control, close
condition, SAFE condition. Then the link controllers choose (R95). -/
def State.departed (s : State) (l : Lane) : State :=
  ((((s.withdraw l).assignControl).closeIfReady .departure).safeCheck l (s.endingCode l)).serveLinks

/-- What follows a role change out of the three seated roles: the whole departure for a voter (R64), the withdrawal alone for a
lane that was in PROBATION (R27). -/
def State.vacated (s : State) (l : Lane) (was : Role) : State :=
  if was.voting then s.departed l else s.withdraw l

/-- A strike charged outside a close, for a discarded line (R51, R53). -/
def State.strikeForLine (s : State) (l : Lane) : State :=
  let was := s.role l
  let s := s.setLane l (s.lane l).struck
  if (s.lane l).strikes = s.settings.strikes then (s.suspend l .strikes).vacated l was else s

end Sys2Proof.Machine
end

