-- ==== Sys2Proof/Machine/Modes.lean ====
section
/-! DEFINITION. The Mode Controller's requests: OPEN, CLOSE, SET, START, RESUME, RESTART, and the session idle expiry (chapter Modes,
Configuration Session and Restart). -/

namespace Sys2Proof.Machine

/-- The session is released: no holder, the idle timer stopped (R127 to R129). -/
def State.releaseSession (s : State) : State := { s with session := none, idle := none }

/-- A lane becomes the session holder and the idle timer starts (R126, R140). -/
def State.holdSession (s : State) (l : Lane) : State :=
  { s with session := some l, idle := some (s.expiry s.settings.session) }

/-- The two checks made before the owner looks at a configuration request (R125). -/
def guarded (l : Lane) (s : State) (owner : State → State × List Text) : State × List Text :=
  if s.mode ≠ .configure then (s, no "MODE" [])
  else if s.session ≠ some l then (s, no "SESSION" [laneOrNone s.session])
  else owner s

/-- OPEN (R126). -/
def handleOpen (l : Lane) (fields : List Text) (s : State) : State × List Text :=
  if fields ≠ [] then (s, no "FIELD" [asc "COUNT"])
  else if s.mode ≠ .configure then (s, no "MODE" [])
  else if (s.lane l).power ≠ .high then (s, no "POWER" [powerText (s.lane l).power])
  else if s.session ≠ none ∧ s.session ≠ some l then (s, no "SESSION" [laneOrNone s.session])
  else (s.holdSession l, [asc "OK", asc "SESSION", laneText l])

/-- CLOSE (R127). The count is checked before the mode, as R126 and R139 say of OPEN and RESTART and R127 leaves open (log entry 9). -/
def handleClose (l : Lane) (fields : List Text) (s : State) : State × List Text :=
  if fields ≠ [] then (s, no "FIELD" [asc "COUNT"])
  else if s.mode ≠ .configure then (s, no "MODE" [])
  else if s.session ≠ some l then (s, no "SESSION" [laneOrNone s.session])
  else (s.releaseSession, [asc "OK", asc "RELEASED"])

/-- SET past the checks of R125 (R131). -/
def handleSet (fields : List Text) (s : State) : State × List Text :=
  match setForm fields with
  | .error name => (s, no "FIELD" [name])
  | .ok (n, v) =>
    if v < (settingRange n).1 ∨ (settingRange n).2 < v then (s, no "RANGE" [settingText n])
    else (({ s with settings := s.settings.put n v }).recomputeDigest, [asc "OK", settingText n, dec v])

/-! ## START -/

/-- The lowest bank that holds a defined point and is not defined (R133). -/
def State.missingBank (s : State) : Option BankNo :=
  (List.finRange 8).find? fun b => !(s.definedIn b).isEmpty && (s.bank b).defn.isNone

/-- A point record as START leaves it: a defined point is PENDING with its safe value as target (R8). -/
def PointRec.started (r : PointRec) : PointRec :=
  match r.defn with
  | none => r
  | some d => { r with target := some d.safe, applied := none, state := .pending, splits := 0, changed := none }

/-- A bank record in use as START leaves it: WARMING on its primary link (R91). -/
def BankRec.warmed (r : BankRec) (deadline : Moment) : BankRec :=
  { r with
    state := .warming, enable := true, activeLink := r.defn.map BankDef.primary,
    links := ⟨LinkRec.fresh, LinkRec.fresh⟩, tag := 0#8, pendingSet := noSlots, resync := false, surveyDue := none,
    settle := some deadline }

/-- An accepted START, in the order of R134. -/
def State.startUp (s : State) (l : Lane) : State :=
  let s := { s.releaseSession with mode := .run }
  let s := s.setLane l ((s.lane l).takeOffice (s.expiry s.settings.quiet))
  let s := { s with round := 1, collecting := some Collecting.empty, summary := none }
  let s := { s with points := Vector.ofFn fun p => (s.point p).started }
  let s := { s with
    banks := Vector.ofFn fun b =>
      if s.inUse b then (s.bank b).warmed (s.expiry s.settings.settle) else s.bank b }
  s.append { code := .started, lane := some l, round := some 1, values := [s.countDefined, s.countInUse] }

/-- START past the checks of R125 (R133, R134). -/
def handleStart (l : Lane) (fields : List Text) (s : State) : State × List Text :=
  match digestForm fields with
  | .error name => (s, no "FIELD" [name])
  | .ok d =>
    if (s.lane l).power ≠ .high then (s, no "POWER" [powerText (s.lane l).power])
    else if d ≠ s.digest then (s, no "DIGEST" [])
    else if s.countDefined = 0 then (s, no "RANGE" [asc "POINT"])
    else match s.missingBank with
      | some b => (s, no "UNDEFINED" [dec b.val])
      | none => (s.startUp l, [asc "OK", asc "STARTED", asc "1"])

/-! ## RESUME -/

/-- The milliseconds a lane has still to wait, if its suspended-until is present and not reached (R46, R57, R137). -/
def State.waits (s : State) (l : Lane) : Option Nat :=
  match (s.lane l).suspendedUntil with
  | none => none
  | some d => if reached s.now d then none else some (interval s.now d)

/-- An accepted RESUME (R138). -/
def State.resumeRun (s : State) (l : Lane) : State :=
  let s := { s with mode := .run }
  let s := s.setLane l ((s.lane l).takeOffice (s.expiry s.settings.quiet))
  let s := { s with collecting := some Collecting.empty }
  s.append { code := .resumed, lane := some l, round := some s.round }

/-- The checks JOIN and RESUME make after the mode: role, wait, power line, digest (R46, R137); the refusal of the first that
fails. -/
def State.entryRefusal (s : State) (l : Lane) (d : Digest) : Option (List Text) :=
  if s.role l ≠ .absent ∧ s.role l ≠ .suspended then some (no "ROLE" [roleText (s.role l)])
  else match s.waits l with
    | some n => some (no "WAIT" [dec n])
    | none =>
      if (s.lane l).power ≠ .high then some (no "POWER" [powerText (s.lane l).power])
      else if d ≠ s.digest then some (no "DIGEST" [])
      else none

/-- RESUME (R137, R138). -/
def handleResume (l : Lane) (fields : List Text) (s : State) : State × List Text :=
  match digestForm fields with
  | .error name => (s, no "FIELD" [name])
  | .ok d =>
    if s.mode ≠ .safe then (s, no "MODE" [])
    else match s.entryRefusal l d with
      | some refusal => (s, refusal)
      | none => (s.resumeRun l, [asc "OK", asc "RESUMED", dec s.round])

/-! ## RESTART -/

/-- A point record after a RESTART (R16). -/
def PointRec.restarted (r : PointRec) : PointRec :=
  { r with target := none, applied := none, splits := 0, changed := none,
           state := if r.defined then .inert else .undefined }

/-- A bank record after a RESTART (R106); a bank without a definition has no primary link and keeps its active link. -/
def BankRec.restarted (r : BankRec) (used : Bool) : BankRec :=
  { r with
    state := if used then .down else .unused, enable := false,
    activeLink := match r.defn with | some d => some d.primary | none => r.activeLink
    links := ⟨LinkRec.fresh, LinkRec.fresh⟩, tag := 0#8, pendingSet := noSlots, resync := false, settle := none,
    surveyDue := none, exchange := none }

/-- A link controller after a RESTART: no transaction in flight, the pointer at 7 (R106). That a discard in force stays is the model's
reading (log entry 11). -/
def LinkCtl.restarted (r : LinkCtl) : LinkCtl := { r with pointer := 7, transaction := none, settledAt := none }

/-- An accepted RESTART, in the order of R140. -/
def State.restartPart (s : State) (l : Lane) : State :=
  let left := s.mode
  let stood := s.round
  let s := { s with
    banks := Vector.ofFn fun b => (s.bank b).restarted (s.inUse b)
    links := PerLink.ofFn fun k => (s.link k).restarted }
  let s := { s with mode := .configure, collecting := none, round := 0, summary := none }
  let s := { s with lanes := PerLane.ofFn fun m => (s.lane m).restarted }
  let s := { s with points := Vector.ofFn fun p => (s.point p).restarted }
  (s.holdSession l).append { code := .restarted, lane := some l, round := some stood, cause := some (.mode left) }

/-- RESTART (R139, R140). -/
def handleRestart (l : Lane) (fields : List Text) (s : State) : State × List Text :=
  if fields ≠ [] then (s, no "FIELD" [asc "COUNT"])
  else match s.mode with
    | .configure => (s, no "MODE" [])
    | .run =>
      if s.role l ≠ .inControl then (s, no "ROLE" [roleText (s.role l)])
      else (s.restartPart l, [asc "OK", asc "RESTARTED"])
    | .safe =>
      if (s.lane l).power ≠ .high then (s, no "POWER" [powerText (s.lane l).power])
      else (s.restartPart l, [asc "OK", asc "RESTARTED"])

/-! ## The session idle timer -/

/-- The session idle timer expires (R128). -/
def State.sessionExpires (s : State) : State :=
  match s.session, s.idle with
  | some l, some e =>
    if s.clock.reached e then s.releaseSession.append { code := .sessionExpired, lane := some l, cause := some .idle } else s
  | _, _ => s

/-- SESSION_IDLE_EXPIRY (R128). -/
def execSessionIdleExpiry (dt : Nat) (s : State) : Host.Outcome State Fault Refusal :=
  happens dt s fun s => s.sessionExpires

end Sys2Proof.Machine
end

