-- ==== Sys2Proof/Machine/Roles.lean ====
section
/-! DEFINITION. The requests JOIN, LEAVE, HANDOVER and RETURN, and the quiet expiry and the end of a suspension (chapters Lane Roles and
Control, Lane Power Loss and Return). -/

namespace Sys2Proof.Machine

/-- An accepted JOIN (R47). -/
def State.joinLane (s : State) (l : Lane) : State :=
  let r := s.lane l
  (s.setLane l { r with
    role := .probation, probClean := 0, probFails := 0, strikes := 0, streak := 0, suspendedUntil := none,
    quiet := some (s.expiry s.settings.quiet) }).append
    { code := .joined, lane := some l, round := some s.round, values := [r.suspensions] }

/-- JOIN (R46, R47). -/
def handleJoin (l : Lane) (fields : List Text) (s : State) : State × List Text :=
  match digestForm fields with
  | .error name => (s, no "FIELD" [name])
  | .ok d =>
    if s.mode ≠ .run then (s, no "MODE" [])
    else match s.entryRefusal l d with
      | some refusal => (s, refusal)
      | none => (s.joinLane l, [asc "OK", asc "JOINED", dec s.round])

/-- The role change and record of an accepted LEAVE (R60). -/
def State.leaveVote (s : State) (l : Lane) : State :=
  (s.setLane l { (s.lane l).unseat with role := .absent }).append
    { code := .left, lane := some l, cause := some .request }

/-- LEAVE (R60). The count is checked before the role, an order that R60 leaves open (log entry 9). -/
def handleLeave (l : Lane) (fields : List Text) (s : State) : State × List Text :=
  if fields ≠ [] then (s, no "FIELD" [asc "COUNT"])
  else if (s.role l).seated = false then (s, no "ROLE" [roleText (s.role l)])
  else ((s.leaveVote l).vacated l (s.role l), [asc "OK", asc "LEFT"])

/-- An accepted HANDOVER (R62). -/
def State.passControl (s : State) (l t : Lane) : State :=
  let s := s.setLane l { s.lane l with role := .standby }
  (s.setLane t { s.lane t with role := .inControl }).append
    { code := .control, lane := some t, round := some s.round, cause := some .handover }

/-- HANDOVER (R61, R62). -/
def handleHandover (l : Lane) (fields : List Text) (s : State) : State × List Text :=
  match handoverForm fields with
  | .error name => (s, no "FIELD" [name])
  | .ok t =>
    if s.mode ≠ .run then (s, no "MODE" [])
    else if s.role l ≠ .inControl then (s, no "ROLE" [roleText (s.role l)])
    else if s.role t ≠ .standby then (s, no "TARGET" [roleText (s.role t)])
    else (s.passControl l t, [asc "OK", asc "CONTROL", laneText t])

/-- An accepted RETURN (R79). -/
def State.returnToVote (s : State) (l : Lane) : State :=
  let r := s.lane l
  let strikes := r.carriedStrikes.getD 0
  let left := match r.holdDeadline with
    | some d => interval s.now d.ms
    | none => 0
  ((s.setLane l { r.endHold with
      role := .standby, strikes, streak := r.carriedStreak.getD 0,
      quiet := some (s.expiry s.settings.quiet) }).append
    { code := .returned, lane := some l, round := some s.round, cause := r.roleBefore.map .role,
      values := [strikes, left] }).assignControl

/-- RETURN (R78, R79). -/
def handleReturn (l : Lane) (fields : List Text) (s : State) : State × List Text :=
  match digestForm fields with
  | .error name => (s, no "FIELD" [name])
  | .ok d =>
    if s.role l ≠ .held then (s, no "ROLE" [roleText (s.role l)])
    else if (s.lane l).power ≠ .high then (s, no "POWER" [powerText (s.lane l).power])
    else if d ≠ s.digest then (s, no "DIGEST" [])
    else
      let t := s.returnToVote l
      (t, [asc "OK", asc "RETURNED", dec s.round, roleText (t.role l)])

/-- The lane's quiet timer runs and has reached its expiry (R58, log entry 3). -/
def State.quietOver (s : State) (l : Lane) : Bool :=
  match (s.lane l).quiet with
  | some e => s.clock.reached e
  | none => false

/-- A lane's quiet timer expires: QUIET record, suspension with cause QUIET, and for a voter the departure (R59). -/
def State.quietExpires (s : State) (l : Lane) : State :=
  if (s.role l).seated = true ∧ s.quietOver l = true then
    let was := s.role l
    let s := s.append { code := .quiet, lane := some l, cause := some (.role was) }
    (s.suspend l .quiet).vacated l was
  else s

/-- Device time reaches a lane's suspended-until, which becomes absent without a record (R57). -/
def State.suspensionPasses (s : State) (l : Lane) : State :=
  match (s.lane l).suspendedUntil with
  | some d => if reached s.now d then s.setLane l { s.lane l with suspendedUntil := none } else s
  | none => s

/-- QUIET_TIMER_EXPIRY (R59). -/
def execQuietTimerExpiry (dt : Nat) (l : Lane) (s : State) : Host.Outcome State Fault Refusal :=
  happens dt s fun s => s.quietExpires l

/-- SUSPENDED_UNTIL_REACHED (R57). -/
def execSuspendedUntilReached (dt : Nat) (l : Lane) (s : State) : Host.Outcome State Fault Refusal :=
  happens dt s fun s => s.suspensionPasses l

end Sys2Proof.Machine
end

