-- ==== Sys2Proof/Machine/Power.lean ====
section
/-! DEFINITION. The power-good inputs, the confirmation of a loss, the flap check and the hold window (chapter Lane Power Loss and
Return). -/

namespace Sys2Proof.Machine

/-- A falling edge that meets the state HIGH: CONFIRMING, and the confirm timer starts (R69). -/
def State.powerFalls (s : State) (l : Lane) : State :=
  if (s.lane l).power = .high then
    s.setLane l { s.lane l with power := .confirming, confirm := some (s.clock.after Config.confirmDelay) }
  else s

/-- A rising edge: a glitch from CONFIRMING, the return of the supply from LOW (R70). -/
def State.powerRises (s : State) (l : Lane) : State :=
  match (s.lane l).power with
  | .high => s
  | .confirming =>
    (s.setLane l { s.lane l with power := .high, confirm := none }).append
      { code := .powerGlitch, lane := some l, cause := some (.role (s.role l)) }
  | .low => s.setLane l { s.lane l with power := .high, lastReturn := some s.now }

/-- The flap check fails when the interval from the last power return to now is less than FLAP (R72). -/
def State.flaps (s : State) (l : Lane) : Bool :=
  match (s.lane l).lastReturn with
  | some t => decide (interval t s.now < s.settings.flap)
  | none => false

/-- The POWER_LOSS record (R71). -/
def State.recordLoss (s : State) (l : Lane) (cause : Cause) : State :=
  s.append { code := .powerLoss, lane := some l, round := some s.round, cause := some cause,
             values := match (s.lane l).lastReturn with
               | some t => [interval t s.now]
               | none => [] }

/-- A voter goes to HELD (R72). -/
def LaneRec.hold (r : LaneRec) (deadline : Moment) : LaneRec :=
  { r with
    roleBefore := some r.role, carriedStrikes := some r.strikes, carriedStreak := some r.streak, strikes := 0, streak := 0,
    role := .held, holdDeadline := some deadline, quiet := none }

/-- A confirmed loss of a voter: flap check, then HELD or EXCLUDED, then the departure (R72 to R74). -/
def State.voterLoss (s : State) (l : Lane) : State :=
  if s.flaps l then ((s.recordLoss l (.role (s.role l))).exclude l .flap).departed l
  else
    let t := s.recordLoss l (.role (s.role l))
    (t.setLane l ((s.lane l).hold (s.expiry s.settings.hold))).departed l

/-- A second confirmed loss while HELD (R77); an exclusion is followed by the SAFE condition (R73). -/
def State.heldLoss (s : State) (l : Lane) : State :=
  let t := s.recordLoss l (.role .held)
  if s.flaps l then ((t.exclude l .flap).safeCheck l .excluded).serveLinks else t

/-- A confirmed loss of a PROBATION lane (R75). -/
def State.probationLoss (s : State) (l : Lane) : State :=
  let t := s.recordLoss l (.role .probation)
  (t.setLane l { (t.lane l).unseat with role := .absent }).withdraw l

/-- The lane's confirm timer runs and has reached its expiry (R69, log entry 3). -/
def State.confirmDue (s : State) (l : Lane) : Bool :=
  match (s.lane l).confirm with
  | some e => s.clock.reached e
  | none => false

/-- The confirm timer expires: the power line is LOW and the loss is confirmed, with the effects of the table of R71. -/
def State.lossConfirmed (s : State) (l : Lane) : State :=
  if (s.lane l).power = .confirming ∧ s.confirmDue l = true then
    let s := s.setLane l { s.lane l with power := .low, confirm := none }
    match s.role l with
    | .standby | .inControl => s.voterLoss l
    | .held => s.heldLoss l
    | .probation => s.probationLoss l
    | .absent => if s.session = some l then (s.recordLoss l .session).releaseSession else s
    | .suspended | .excluded => s
  else s

/-- The lane's hold deadline is reached (R172, log entry 3). -/
def State.holdOver (s : State) (l : Lane) : Bool :=
  match (s.lane l).holdDeadline with
  | some e => s.clock.reached e
  | none => false

/-- The hold deadline of a HELD lane is reached: HOLD_EXPIRED, suspension with cause HOLD, SAFE condition (R80). -/
def State.holdExpires (s : State) (l : Lane) : State :=
  let r := s.lane l
  if r.role = .held ∧ s.holdOver l = true then
    let s := s.append { code := .holdExpired, lane := some l, round := some s.round, cause := r.roleBefore.map .role,
                        values := [r.carriedStrikes.getD 0] }
    let s := (s.setLane l r.endHold).suspend l .hold
    (s.safeCheck l (s.endingCode l)).serveLinks
  else s

/-- PG_FALL (R69). -/
def execPgFall (dt : Nat) (l : Lane) (s : State) : Host.Outcome State Fault Refusal :=
  happens dt s fun s => s.powerFalls l

/-- PG_RISE (R70). -/
def execPgRise (dt : Nat) (l : Lane) (s : State) : Host.Outcome State Fault Refusal :=
  happens dt s fun s => s.powerRises l

/-- CONFIRM_TIMER_EXPIRY (R71). -/
def execConfirmTimerExpiry (dt : Nat) (l : Lane) (s : State) : Host.Outcome State Fault Refusal :=
  happens dt s fun s => s.lossConfirmed l

/-- HOLD_EXPIRY (R80). -/
def execHoldExpiry (dt : Nat) (l : Lane) (s : State) : Host.Outcome State Fault Refusal :=
  happens dt s fun s => s.holdExpires l

end Sys2Proof.Machine
end

