-- ==== Sys2Proof/Machine/Reports.lean ====
section
/-! DEFINITION. The report requests STATUS, LANES, POINTS, BANKS, ROUND and DIGEST (chapter Reports), and FAULTS and ACK (chapter The
Fault Log). -/

namespace Sys2Proof.Machine

/-- The answer to a report without fields (R170). -/
def plainReport (fields : List Text) (s : State) (body : List Text) : State × List Text :=
  if fields ≠ [] then (s, no "FIELD" [asc "COUNT"]) else (s, body)

/-! ## STATUS -/

/-- The milliseconds that remain to an expiry or deadline at the take (R172). -/
def State.remainingText (s : State) (d : Time) : Text := dec (interval s.now d)

/-- The timer field of STATUS (R171). -/
def State.timerText (s : State) : Text :=
  match s.collecting with
  | some { slots := _, sealed := _, timer := some e } => s.remainingText e.ms
  | _ => asc "STOPPED"

/-- The fields of STATUS in their order (R171). -/
def State.statusBody (s : State) : List Text :=
  [asc "OK", asc "STATUS", modeText s.mode, dec s.now.toNat, dec s.round, s.timerText, laneOrNone s.control,
   roleText (s.role .a), roleText (s.role .b), roleText (s.role .c), laneOrNone s.session, digestText s.digest]

/-- STATUS (R171). -/
def handleStatus (fields : List Text) (s : State) : State × List Text := plainReport fields s s.statusBody

/-! ## LANES -/

/-- The wait field of LANES: the milliseconds to suspended-until while it is present and not reached (R57, R172). -/
def State.waitText (s : State) (l : Lane) : Text :=
  match (s.lane l).suspendedUntil with
  | none => hyphen
  | some d => if reached s.now d then hyphen else s.remainingText d

/-- The eleven tokens of a lane (R173, R182). -/
def State.laneGroup (s : State) (l : Lane) : List Text :=
  let r := s.lane l
  [laneText l, roleText r.role, dec r.strikes, dec r.streak, dec r.suspensions, s.waitText l, dec r.probClean,
   dec r.probFails, powerText r.power, orHyphen (fun t => dec t.toNat) r.lastReturn,
   orHyphen (fun e => s.remainingText e.ms) r.holdDeadline]

def State.lanesBody (s : State) : List Text :=
  [asc "OK", asc "LANES"] ++ s.laneGroup .a ++ s.laneGroup .b ++ s.laneGroup .c

/-- LANES (R173). -/
def handleLanes (fields : List Text) (s : State) : State × List Text := plainReport fields s s.lanesBody

/-! ## POINTS -/

/-- The seven tokens of a point (R174, R175). -/
def State.pointGroup (s : State) (p : PointNo) : List Text :=
  let r := s.point p
  match r.defn with
  | none => [dec p.val, pointStateText r.state, hyphen, hyphen, hyphen, hyphen, hyphen]
  | some d => [dec p.val, pointStateText r.state, kindText d.kind, orHyphen dec r.target, orHyphen dec r.applied,
               dec r.splits, orHyphen dec r.changed]

/-- The numbers of a run: first, first + 1, and so on, stopping after the last of the table (R170). -/
def runOf (size first number : Nat) : List Nat := (List.range' first number).filter (· < size)

/-- POINTS (R170, R174). -/
def handlePoints (fields : List Text) (s : State) : State × List Text :=
  match runForm fields with
  | .error name => (s, no "FIELD" [name])
  | .ok (first, number) =>
    if 63 < first then (s, no "RANGE" [asc "FIRST"])
    else if number < 1 ∨ 8 < number then (s, no "RANGE" [asc "NUMBER"])
    else
      let run := runOf 64 first number
      (s, [asc "OK", asc "POINTS", dec run.length] ++ run.flatMap fun n => s.pointGroup (Fin.ofNat 64 n))

/-! ## BANKS -/

/-- The exchange token: kind, step and attempt joined by '/', or a hyphen (R176, R182). -/
def exchangeText : Option Exchange → Text
  | none => hyphen
  | some x =>
    (match x.phase with
      | .load => asc "APPLY/LOAD/"
      | .transfer => asc "APPLY/TRANSFER/"
      | .survey => asc "SURVEY/-/") ++
    (match x.attempt with
      | .first => asc "1"
      | .second => asc "2")

/-- The active field: a hyphen for a bank that is not defined or has no active link (R176). -/
def BankRec.activeText (r : BankRec) : Text :=
  match r.defn with
  | none => hyphen
  | some _ => orHyphen linkText r.activeLink

/-- The ten tokens of a bank (R176, R182). -/
def State.bankGroup (s : State) (b : BankNo) : List Text :=
  let r := s.bank b
  [dec b.val, bankStateText r.state, r.activeText, markText r.links.one.mark, dec r.links.one.strikes,
   markText r.links.two.mark, dec r.links.two.strikes, dec r.pendingSlots.length,
   if r.resync then asc "SET" else asc "CLEAR", exchangeText r.exchange]

/-- BANKS (R170, R176). -/
def handleBanks (fields : List Text) (s : State) : State × List Text :=
  match runForm fields with
  | .error name => (s, no "FIELD" [name])
  | .ok (first, number) =>
    if 7 < first then (s, no "RANGE" [asc "FIRST"])
    else if number < 1 ∨ 4 < number then (s, no "RANGE" [asc "NUMBER"])
    else
      let run := runOf 8 first number
      (s, [asc "OK", asc "BANKS", dec run.length] ++ run.flatMap fun n => s.bankGroup (Fin.ofNat 8 n))

/-! ## ROUND and DIGEST -/

/-- The fields of ROUND (R177). -/
def State.roundBody (s : State) : List Text :=
  match s.summary with
  | none => [asc "OK", asc "ROUND", asc "NONE"]
  | some m =>
    [asc "OK", asc "ROUND", dec m.round, closeCauseText m.cause, dec m.time.toNat, laneSetText m.voters, laneSetText m.late,
     laneSetText m.dissenters, dec m.changed, dec m.nomajority, dec m.split]

/-- ROUND (R177). -/
def handleRound (fields : List Text) (s : State) : State × List Text := plainReport fields s s.roundBody

/-- DIGEST (R178). -/
def handleDigest (fields : List Text) (s : State) : State × List Text :=
  plainReport fields s [asc "OK", asc "DIGEST", digestText s.digest]

/-! ## FAULTS and ACK -/

/-- The values token: the integers joined by commas, or a hyphen (R182). -/
def valuesText : List Nat → Text
  | [] => hyphen
  | vs => joinWith 44#8 (vs.map dec)

/-- The ten tokens of a fault record (R182). -/
def recordGroup (r : Record) : List Text :=
  let e := r.event
  [dec r.serial.toNat, dec r.time.toNat, codeText e.code, orHyphen laneText e.lane, orHyphen (fun b => dec b.val) e.bank,
   orHyphen linkText e.link, orHyphen (fun p => dec p.val) e.point, orHyphen dec e.round, orHyphen causeText e.cause,
   valuesText e.values]

/-- The records a FAULTS reply holds: at most three from the cursor onward (R149). -/
def State.faultRecords (s : State) (l : Lane) : List Record := (s.log.ahead l).take Config.maxFaults

/-- The body of a FAULTS reply (R149, R153). -/
def State.faultsBody (s : State) (l : Lane) : List Text :=
  [asc "OK", asc "FAULTS", dec (s.faultRecords l).length] ++
    (if s.log.gaps.get l = 0 then [] else [asc "GAP", dec (s.log.gaps.get l)]) ++
    (s.faultRecords l).flatMap recordGroup

/-- FAULTS: the reported gap count is set back to 0 (R149, R153). -/
def handleFaults (l : Lane) (fields : List Text) (s : State) : State × List Text :=
  if fields ≠ [] then (s, no "FIELD" [asc "COUNT"])
  else ({ s with log := { s.log with gaps := s.log.gaps.set l 0 } }, s.faultsBody l)

/-- ACK: the cursor moves past a held record at or after it (R150). -/
def handleAck (l : Lane) (fields : List Text) (s : State) : State × List Text :=
  match ackForm fields with
  | .error name => (s, no "FIELD" [name])
  | .ok n =>
    match (s.log.ahead l).find? fun r => r.serial.toNat = n with
    | some r =>
      ({ s with log := { s.log with cursors := s.log.cursors.set l (serialAfter r.serial) } },
        [asc "OK", asc "ACKED", dec n])
    | none => (s, no "RANGE" [dec (s.log.cursors.get l).toNat])

end Sys2Proof.Machine
end

