-- ==== Sys2Proof/Machine/Rounds.lean ====
section
/-! DEFINITION. The requests STAGE and SEAL and the expiry of the round timer (chapter Vote Rounds). -/

namespace Sys2Proof.Machine

/-- The checks 1 to 4 that STAGE and SEAL share (R22, R24): the collecting round, or the refusal. -/
def State.roundCheck (s : State) (l : Lane) (round : Nat) : Except (List Text) Collecting :=
  match s.mode, s.collecting with
  | .run, some c =>
    if (s.role l).seated = false then .error (no "ROLE" [roleText (s.role l)])
    else if round ≠ s.round then .error (no "ROUND" [dec s.round])
    else if c.sealed.get l then .error (no "SEALED" [])
    else .ok c
  | _, _ => .error (no "MODE" [])

/-- Check 5 of R22 over all pairs, left to right: the first pair whose point number is above 63. -/
def State.pairsNamed (s : State) : List (Nat × Nat) → Option (List Text)
  | [] => none
  | (n, _) :: rest =>
    if 64 ≤ n then some (no "RANGE" [dec n])
    else s.pairsNamed rest

/-- Check 6 of R22: the first pair whose point is not defined. -/
def State.pairsDefined (s : State) : List (Nat × Nat) → Option (List Text)
  | [] => none
  | (n, _) :: rest =>
    if (s.point (Fin.ofNat 64 n)).defined then s.pairsDefined rest else some (no "UNDEFINED" [dec n])

/-- Check 7 of R22: the first pair whose value lies outside its point's range. -/
def State.pairsInRange (s : State) : List (Nat × Nat) → Option (List Text)
  | [] => none
  | (n, v) :: rest =>
    match (s.point (Fin.ofNat 64 n)).defn with
    | some d => if d.min ≤ v ∧ v ≤ d.max then s.pairsInRange rest else some (no "RANGE" [dec n])
    | none => s.pairsInRange rest

/-- Checks 5 to 7 of R22, each over all pairs before the next. -/
def State.pairsRefusal (s : State) (ps : List (Nat × Nat)) : Option (List Text) :=
  match s.pairsNamed ps with
  | some r => some r
  | none =>
    match s.pairsDefined ps with
    | some r => some r
    | none => s.pairsInRange ps

/-- The pairs are stored from left to right, a later one replacing an earlier (R20, R23). -/
def Collecting.putAll (c : Collecting) (l : Lane) (ps : List (Nat × Nat)) : Collecting :=
  ps.foldl (fun c q => c.put l (Fin.ofNat 64 q.1) q.2) c

/-- STAGE (R21 to R23). -/
def handleStage (l : Lane) (fields : List Text) (s : State) : State × List Text :=
  match stageForm fields with
  | .error name => (s, no "FIELD" [name])
  | .ok (round, ps) =>
    match s.roundCheck l round with
    | .error refusal => (s, refusal)
    | .ok c =>
      match s.pairsRefusal ps with
      | some refusal => (s, refusal)
      | none =>
        ({ s with collecting := some (c.putAll l ps) }, [asc "OK", asc "STAGED", dec s.round, dec ps.length])

/-- An accepted SEAL: the lane joins the seal set, a stopped timer starts, and a ready round closes with cause SEALED (R25). -/
def State.sealRound (s : State) (l : Lane) (c : Collecting) : State × List Text :=
  let c := c.seal l (s.expiry s.settings.roundtime)
  let s := { s with collecting := some c }
  if s.ready c then
    ((s.closeRound c .sealed).serveLinks, [asc "OK", asc "CLOSED", dec s.round, closeCauseText .sealed])
  else (s, [asc "OK", asc "SEALED", dec s.round])

/-- SEAL (R24, R25). -/
def handleSeal (l : Lane) (fields : List Text) (s : State) : State × List Text :=
  match sealForm fields with
  | .error name => (s, no "FIELD" [name])
  | .ok round =>
    match s.roundCheck l round with
    | .error refusal => (s, refusal)
    | .ok c => s.sealRound l c

/-- The round timer expires while its round is collecting: the round closes with cause TIMER (R29). A running timer expires
where it reaches the instant it runs to (R172, R186). -/
def State.roundTimeout (s : State) : State :=
  match s.collecting with
  | some c => match c.timer with
    | some e => if s.clock.reached e then (s.closeRound c .timer).serveLinks else s
    | none => s
  | none => s

/-- ROUND_TIMER_EXPIRY (R29). -/
def execRoundTimerExpiry (dt : Nat) (s : State) : Host.Outcome State Fault Refusal :=
  happens dt s fun s => s.roundTimeout

end Sys2Proof.Machine
end

