-- ==== Sys2Proof/Machine/Ports.lean ====
section
/-! DEFINITION. The Lane Ports: discards, the receive queue, the take of a line, the sequence decision, dispatch and reply, and the
commands of the lane links (chapter Lane Links). -/

namespace Sys2Proof.Machine

/-! ## Dispatch -/

/-- The owner of each verb handles the request; the configuration requests pass the checks of R125 first (R164). -/
def handleVerb (v : Verb) (l : Lane) (fields : List Text) (s : State) : State × List Text :=
  match v with
  | .point => guarded l s (handlePoint fields)
  | .drop => guarded l s (handleDrop fields)
  | .bank => guarded l s (handleBank fields)
  | .openSession => handleOpen l fields s
  | .closeSession => handleClose l fields s
  | .setSetting => guarded l s (handleSet fields)
  | .start => guarded l s (handleStart l fields)
  | .resume => handleResume l fields s
  | .restart => handleRestart l fields s
  | .stage => handleStage l fields s
  | .seal => handleSeal l fields s
  | .join => handleJoin l fields s
  | .leave => handleLeave l fields s
  | .handover => handleHandover l fields s
  | .returnLane => handleReturn l fields s
  | .status => handleStatus fields s
  | .lanes => handleLanes fields s
  | .points => handlePoints fields s
  | .banks => handleBanks fields s
  | .round => handleRound fields s
  | .digest => handleDigest fields s
  | .faults => handleFaults l fields s
  | .ack => handleAck l fields s

/-- The dispatch of a line by its verb: NO VERB for one the part does not know, NO EXCLUDED for an EXCLUDED lane's verb that is not
served, its owner otherwise (R164, R165). -/
def dispatch (l : Lane) (req : Request) (s : State) : State × List Text :=
  match readVerb req.verb with
  | none => (s, no "VERB" [req.verb])
  | some v =>
    if s.role l = .excluded ∧ servedExcluded v = false then (s, no "EXCLUDED" [])
    else handleVerb v l req.fields s

/-! ## The take of a line -/

/-- A taken line restarts the lane's quiet timer if it runs, and the idle timer if the lane holds the session (R58, R128, R160). -/
def State.noteTaken (s : State) (l : Lane) : State :=
  let s := s.setLane l ((s.lane l).restartQuiet (s.expiry s.settings.quiet))
  if s.session = some l then { s with idle := some (s.expiry s.settings.session) } else s

/-- The reply is composed with the lane's unread count, and the transmitter is busy with it (R166, R167). -/
def State.reply (s : State) (l : Lane) (seq : Byte) (body : List Text) : State :=
  s.setPort l { s.port l with sending := some { seq, body, unread := s.log.unread l } }

/-- The sequence decision (R161, R162). -/
inductive SeqDecision where
  /-- The line goes on; the expected number becomes the one after its own. -/
  | goesOn
  /-- The line is answered from the stored reply. -/
  | resend (body : List Text)
  /-- The line is answered NO SEQ. -/
  | outOfSequence
  deriving DecidableEq, Repr

/-- The sequence decision for a line at its take (R161, R162). -/
def LanePort.decideSeq (r : LanePort) (req : Request) : SeqDecision :=
  if ((readVerb req.verb).map resynchronises).getD false then .goesOn
  else match r.expected with
    | none => .outOfSequence
    | some e =>
      if req.seq = e then .goesOn
      else match r.stored with
        | some m => if req.seq = e - 1#8 ∧ m.line = req.text then .resend m.body else .outOfSequence
        | none => .outOfSequence

/-- The body of a NO SEQ reply (R161). -/
def LanePort.noSeq (r : LanePort) : List Text :=
  no "SEQ" [match r.expected with | some e => hexDigits 2 e.toNat | none => asc "NONE"]

/-- A line that goes on: expected number, dispatch, stored reply, reply (R160 to R163). -/
def State.execute (s : State) (l : Lane) (req : Request) : State :=
  let s := s.setPort l { s.port l with expected := some (req.seq + 1#8) }
  let (s, body) := dispatch l req s
  let s := s.setPort l { s.port l with stored := some { line := req.text, body } }
  s.reply l req.seq body

/-- The take of a line, in the order of R160. -/
def State.take (s : State) (l : Lane) (req : Request) : State :=
  let s := s.noteTaken l
  match (s.port l).decideSeq req with
  | .goesOn => s.execute l req
  | .resend body => s.reply l req.seq body
  | .outOfSequence => s.reply l req.seq (s.port l).noSeq

/-! ## Lines -/

/-- A discarded line: LINE_ERROR, and a strike if the lane is in STANDBY or IN_CONTROL (R53, R158). -/
def State.discardLine (s : State) (l : Lane) (cause : LineFault) : State :=
  let s := s.append { code := .lineError, lane := some l, cause := some (.line cause) }
  if (s.role l).voting then s.strikeForLine l else s

/-- A checked line: taken at its own LF when the queue is empty and the transmitter idle, queued otherwise (R159). -/
def State.acceptLine (s : State) (l : Lane) (req : Request) : State :=
  if (s.port l).queue = [] ∧ (s.port l).sending = none then s.take l req
  else s.setPort l { s.port l with queue := (s.port l).queue ++ [req] }

/-- The receive queue is full: a line that ends now is discarded (check 1 of R158). -/
def LanePort.full (r : LanePort) : Bool := decide (Config.queueSize ≤ r.queue.length)

/-- An LF ends a line (R158): the end of an over-length line is dropped with it; any other line is checked and discarded, queued or
taken. The LF may be a damaged one (log entry 19). -/
def State.lineEnds (s : State) (l : Lane) (chars : List RxByte) : State :=
  let line := (s.port l).assembling ++ chars
  let dropping := (s.port l).dropping
  let s := s.setPort l { s.port l with assembling := [], dropping := false }
  if dropping then s
  else if (s.port l).full then s.discardLine l .overrun
  else match checkLine line with
    | .error cause => s.discardLine l cause
    | .ok req => s.acceptLine l req

/-- The LF of a request line that passes checks 2 to 5 of R158 ends on the lane's link. Where the port drops the rest of an
over-length line or holds characters in assembly, these characters are the rest of that line (R158, log entry 4). -/
def State.requestEnds (s : State) (l : Lane) (req : Request) : State :=
  if (s.port l).assembling = [] ∧ (s.port l).dropping = false then
    if (s.port l).full then s.discardLine l .overrun else s.acceptLine l req
  else s.lineEnds l (requestChars req)

/-- The 240th character of a line is not its LF: discarded with LENGTH, and what follows is dropped up to the next LF (R158). -/
def State.lineTooLong (s : State) (l : Lane) : State :=
  if (s.port l).dropping then s
  else (s.setPort l { s.port l with assembling := [], dropping := true }).discardLine l .length

/-- The last character of a reply has been sent: the transmitter is idle and the oldest queued line is taken (R159). -/
def State.replyEnds (s : State) (l : Lane) : State :=
  if (s.port l).sending.isSome then
    match (s.port l).queue with
    | [] => s.setPort l { s.port l with sending := none }
    | req :: rest => (s.setPort l { s.port l with sending := none, queue := rest }).take l req
  else s

/-- LINE_END (R158). -/
def execLineEnd (dt : Nat) (l : Lane) (chars : List RxByte) (s : State) : Host.Outcome State Fault Refusal :=
  happens dt s fun s => s.lineEnds l chars

/-- LINE_OVER_LENGTH (R158). -/
def execLineOverLength (dt : Nat) (l : Lane) (s : State) : Host.Outcome State Fault Refusal :=
  happens dt s fun s => s.lineTooLong l

/-- REPLY_END (R159, R167). -/
def execReplyEnd (dt : Nat) (l : Lane) (s : State) : Host.Outcome State Fault Refusal :=
  happens dt s fun s => s.replyEnds l

end Sys2Proof.Machine
end

