-- ==== Sys2Proof/Machine/Requests.lean ====
section
/-! DEFINITION. The request commands: each is the end of a well-formed request line with its verb on the lane's link, taken, queued or
discarded as R158 and R159 state (log entry 4), and handled by its owner when it is taken. -/

namespace Sys2Proof.Machine

/-- A request line in its canonical spelling ends on the lane's link (R158, R159). -/
def requestArrives (dt : Nat) (l : Lane) (seq : Byte) (verb : Text) (fields : List Text) (s : State) :
    Host.Outcome State Fault Refusal :=
  happens dt s fun s => s.requestEnds l (mkRequest seq verb fields)

/-- POINT (R4 to R6). -/
def execPoint (dt : Nat) (l : Lane) (seq : Byte) (fields : List Text) (s : State) : Host.Outcome State Fault Refusal :=
  requestArrives dt l seq (verbText .point) fields s

/-- DROP (R7). -/
def execDrop (dt : Nat) (l : Lane) (seq : Byte) (fields : List Text) (s : State) : Host.Outcome State Fault Refusal :=
  requestArrives dt l seq (verbText .drop) fields s

/-- BANK (R86 to R88). -/
def execBank (dt : Nat) (l : Lane) (seq : Byte) (fields : List Text) (s : State) : Host.Outcome State Fault Refusal :=
  requestArrives dt l seq (verbText .bank) fields s

/-- BANK_REMOVAL: the line `BANK b NONE` (R86, R88). -/
def execBankRemoval (dt : Nat) (l : Lane) (seq : Byte) (b : Text) (s : State) : Host.Outcome State Fault Refusal :=
  requestArrives dt l seq (verbText .bank) [b, asc "NONE"] s

/-- OPEN (R126). -/
def execOpenSession (dt : Nat) (l : Lane) (seq : Byte) (fields : List Text) (s : State) : Host.Outcome State Fault Refusal :=
  requestArrives dt l seq (verbText .openSession) fields s

/-- CLOSE (R127). -/
def execCloseSession (dt : Nat) (l : Lane) (seq : Byte) (fields : List Text) (s : State) : Host.Outcome State Fault Refusal :=
  requestArrives dt l seq (verbText .closeSession) fields s

/-- SET (R131). -/
def execSetSetting (dt : Nat) (l : Lane) (seq : Byte) (fields : List Text) (s : State) : Host.Outcome State Fault Refusal :=
  requestArrives dt l seq (verbText .setSetting) fields s

/-- START (R133, R134). -/
def execStart (dt : Nat) (l : Lane) (seq : Byte) (fields : List Text) (s : State) : Host.Outcome State Fault Refusal :=
  requestArrives dt l seq (verbText .start) fields s

/-- RESUME (R137, R138). -/
def execResume (dt : Nat) (l : Lane) (seq : Byte) (fields : List Text) (s : State) : Host.Outcome State Fault Refusal :=
  requestArrives dt l seq (verbText .resume) fields s

/-- RESTART (R139, R140). -/
def execRestart (dt : Nat) (l : Lane) (seq : Byte) (fields : List Text) (s : State) : Host.Outcome State Fault Refusal :=
  requestArrives dt l seq (verbText .restart) fields s

/-- STAGE (R21 to R23). -/
def execStage (dt : Nat) (l : Lane) (seq : Byte) (fields : List Text) (s : State) : Host.Outcome State Fault Refusal :=
  requestArrives dt l seq (verbText .stage) fields s

/-- SEAL (R24, R25). -/
def execSeal (dt : Nat) (l : Lane) (seq : Byte) (fields : List Text) (s : State) : Host.Outcome State Fault Refusal :=
  requestArrives dt l seq (verbText .seal) fields s

/-- JOIN (R46, R47). -/
def execJoin (dt : Nat) (l : Lane) (seq : Byte) (fields : List Text) (s : State) : Host.Outcome State Fault Refusal :=
  requestArrives dt l seq (verbText .join) fields s

/-- LEAVE (R60). -/
def execLeave (dt : Nat) (l : Lane) (seq : Byte) (fields : List Text) (s : State) : Host.Outcome State Fault Refusal :=
  requestArrives dt l seq (verbText .leave) fields s

/-- HANDOVER (R61, R62). -/
def execHandover (dt : Nat) (l : Lane) (seq : Byte) (fields : List Text) (s : State) : Host.Outcome State Fault Refusal :=
  requestArrives dt l seq (verbText .handover) fields s

/-- RETURN (R78, R79). -/
def execReturnLane (dt : Nat) (l : Lane) (seq : Byte) (fields : List Text) (s : State) : Host.Outcome State Fault Refusal :=
  requestArrives dt l seq (verbText .returnLane) fields s

/-- STATUS (R171). -/
def execStatus (dt : Nat) (l : Lane) (seq : Byte) (fields : List Text) (s : State) : Host.Outcome State Fault Refusal :=
  requestArrives dt l seq (verbText .status) fields s

/-- LANES (R173). -/
def execLanes (dt : Nat) (l : Lane) (seq : Byte) (fields : List Text) (s : State) : Host.Outcome State Fault Refusal :=
  requestArrives dt l seq (verbText .lanes) fields s

/-- POINTS (R174). -/
def execPoints (dt : Nat) (l : Lane) (seq : Byte) (fields : List Text) (s : State) : Host.Outcome State Fault Refusal :=
  requestArrives dt l seq (verbText .points) fields s

/-- BANKS (R176). -/
def execBanks (dt : Nat) (l : Lane) (seq : Byte) (fields : List Text) (s : State) : Host.Outcome State Fault Refusal :=
  requestArrives dt l seq (verbText .banks) fields s

/-- ROUND (R177). -/
def execRound (dt : Nat) (l : Lane) (seq : Byte) (fields : List Text) (s : State) : Host.Outcome State Fault Refusal :=
  requestArrives dt l seq (verbText .round) fields s

/-- DIGEST (R178). -/
def execDigest (dt : Nat) (l : Lane) (seq : Byte) (fields : List Text) (s : State) : Host.Outcome State Fault Refusal :=
  requestArrives dt l seq (verbText .digest) fields s

/-- FAULTS (R149). -/
def execFaults (dt : Nat) (l : Lane) (seq : Byte) (fields : List Text) (s : State) : Host.Outcome State Fault Refusal :=
  requestArrives dt l seq (verbText .faults) fields s

/-- ACK (R150). -/
def execAck (dt : Nat) (l : Lane) (seq : Byte) (fields : List Text) (s : State) : Host.Outcome State Fault Refusal :=
  requestArrives dt l seq (verbText .ack) fields s

/-- UNKNOWN_VERB (R164). -/
def execUnknownVerb (dt : Nat) (l : Lane) (seq : Byte) (verb : Text) (fields : List Text) (s : State) :
    Host.Outcome State Fault Refusal :=
  requestArrives dt l seq verb fields s

end Sys2Proof.Machine
end

