-- ==== Sys2Proof/Machine/Resets.lean ====
section
/-! DEFINITION. Power-on, the external reset, and the end of a reset (R141, R185). -/

namespace Sys2Proof.Machine

/-- The part while a reset lasts: every block holds its reset values, device time stands at 0 and nothing is taken; the commands
that wait are kept (R141). The power lines are sampled only when the reset ends (R83). -/
def State.heldInReset (s : State) : State := { State.reset with inReset := true, pending := s.pending }

/-- The power line state that a sampled level gives (R83). -/
def sampledPower (high : Bool) : PowerLine := if high then .high else .low

/-- The reset ends: device time counts from 0, the PG inputs are sampled, and the part begins in CONFIGURE (R141, R185). -/
def State.endReset (s : State) (pg : PerLane Bool) : State :=
  { State.afterReset (PerLane.ofFn fun l => sampledPower (pg.get l)) with pending := s.pending }

/-- POWER_ON_RESET (R141). -/
def execPowerOnReset (s : State) : Host.Outcome State Fault Refusal := .next s.heldInReset

/-- RESET_N_LOW (R141). -/
def execResetNLow (s : State) : Host.Outcome State Fault Refusal := .next s.heldInReset

/-- RESET_END (R185); without a reset to end it does not occur and changes nothing. -/
def execResetEnd (pg : PerLane Bool) (s : State) : Host.Outcome State Fault Refusal :=
  .next (if s.inReset then s.endReset pg else s)

end Sys2Proof.Machine
end

