-- ==== Sys2Proof/Machine/Dispatch.lean ====
section
/-! DEFINITION. One arm per command. -/

namespace Sys2Proof.Machine

def exec (i : Instr) (s : State) : Host.Outcome State Fault Refusal :=
  match i with
  | .point dt l q fs => Sys2Proof.Machine.execPoint dt l q fs s
  | .drop dt l q fs => Sys2Proof.Machine.execDrop dt l q fs s
  | .bank dt l q fs => Sys2Proof.Machine.execBank dt l q fs s
  | .bankRemoval dt l q b => Sys2Proof.Machine.execBankRemoval dt l q b s
  | .openSession dt l q fs => Sys2Proof.Machine.execOpenSession dt l q fs s
  | .closeSession dt l q fs => Sys2Proof.Machine.execCloseSession dt l q fs s
  | .setSetting dt l q fs => Sys2Proof.Machine.execSetSetting dt l q fs s
  | .start dt l q fs => Sys2Proof.Machine.execStart dt l q fs s
  | .resume dt l q fs => Sys2Proof.Machine.execResume dt l q fs s
  | .restart dt l q fs => Sys2Proof.Machine.execRestart dt l q fs s
  | .stage dt l q fs => Sys2Proof.Machine.execStage dt l q fs s
  | .seal dt l q fs => Sys2Proof.Machine.execSeal dt l q fs s
  | .join dt l q fs => Sys2Proof.Machine.execJoin dt l q fs s
  | .leave dt l q fs => Sys2Proof.Machine.execLeave dt l q fs s
  | .handover dt l q fs => Sys2Proof.Machine.execHandover dt l q fs s
  | .returnLane dt l q fs => Sys2Proof.Machine.execReturnLane dt l q fs s
  | .status dt l q fs => Sys2Proof.Machine.execStatus dt l q fs s
  | .lanes dt l q fs => Sys2Proof.Machine.execLanes dt l q fs s
  | .points dt l q fs => Sys2Proof.Machine.execPoints dt l q fs s
  | .banks dt l q fs => Sys2Proof.Machine.execBanks dt l q fs s
  | .round dt l q fs => Sys2Proof.Machine.execRound dt l q fs s
  | .digest dt l q fs => Sys2Proof.Machine.execDigest dt l q fs s
  | .faults dt l q fs => Sys2Proof.Machine.execFaults dt l q fs s
  | .ack dt l q fs => Sys2Proof.Machine.execAck dt l q fs s
  | .unknownVerb dt l q v fs => Sys2Proof.Machine.execUnknownVerb dt l q v fs s
  | .lineEnd dt l chars => Sys2Proof.Machine.execLineEnd dt l chars s
  | .lineOverLength dt l => Sys2Proof.Machine.execLineOverLength dt l s
  | .replyEnd dt l => Sys2Proof.Machine.execReplyEnd dt l s
  | .pgFall dt l => Sys2Proof.Machine.execPgFall dt l s
  | .pgRise dt l => Sys2Proof.Machine.execPgRise dt l s
  | .powerOnReset => Sys2Proof.Machine.execPowerOnReset s
  | .resetNLow => Sys2Proof.Machine.execResetNLow s
  | .resetEnd pg => Sys2Proof.Machine.execResetEnd pg s
  | .roundTimerExpiry dt => Sys2Proof.Machine.execRoundTimerExpiry dt s
  | .quietTimerExpiry dt l => Sys2Proof.Machine.execQuietTimerExpiry dt l s
  | .confirmTimerExpiry dt l => Sys2Proof.Machine.execConfirmTimerExpiry dt l s
  | .holdExpiry dt l => Sys2Proof.Machine.execHoldExpiry dt l s
  | .suspendedUntilReached dt l => Sys2Proof.Machine.execSuspendedUntilReached dt l s
  | .sessionIdleExpiry dt => Sys2Proof.Machine.execSessionIdleExpiry dt s
  | .warmingSettleDeadline dt b => Sys2Proof.Machine.execWarmingSettleDeadline dt b s
  | .switchingSettleDeadline dt b => Sys2Proof.Machine.execSwitchingSettleDeadline dt b s
  | .surveyDue dt b => Sys2Proof.Machine.execSurveyDue dt b s
  | .driverFrameSent dt k => Sys2Proof.Machine.execDriverFrameSent dt k s
  | .replyTimerExpiry dt k m => Sys2Proof.Machine.execReplyTimerExpiry dt k m s
  | .driverFrameReceived dt k bytes => Sys2Proof.Machine.execDriverFrameReceived dt k bytes s

end Sys2Proof.Machine
end

