-- ==== Sys2Proof/Machine/Flags.lean ====
section
/-! DEFINITION. The plain output lines (R185), each a view of the state it shows. -/

namespace Sys2Proof.Machine

/-- RUNNING is high while the mode is RUN (R124). -/
def State.runningLine (s : State) : Bool := decide (s.mode = .run)

/-- CTL_x is high while the lane's role is IN_CONTROL (R65). -/
def State.ctlLine (s : State) (l : Lane) : Bool := decide (s.role l = .inControl)

/-- ATTN_x is high while the lane's unread count is above 0 (R148). -/
def State.attnLine (s : State) (l : Lane) : Bool := decide (0 < s.log.unread l)

/-- EN_b is the bank record's enable line (R85). -/
def State.enLine (s : State) (b : BankNo) : Bool := (s.bank b).enable

end Sys2Proof.Machine
end

