-- ==== Sys2Proof/WellFormed.lean ====
section
/-! DEFINITION. Which terms of Instr are commands the outside can give: request tokens that can stand on a line, lines that end at
their first LF within the length limit, frames of at least one byte. The machine is total: it gives a meaning to every term. -/

namespace Sys2Proof

/-- A token: a run of at least one printable character other than the space (R157, R180). -/
def goodToken (t : Text) : Bool := t ≠ [] && t.all Machine.printable

/-- The operands of a request can stand on one request line (R157): printable tokens, at most 240 characters with CR and LF. -/
def goodRequest (seq : Byte) (verb : Text) (fields : List Text) : Bool :=
  goodToken verb && fields.all goodToken &&
    decide ((Machine.requestText seq verb fields).length + 2 ≤ Config.maxLine)

/-- The characters of a LINE_END: the last is the line's only LF, and the line is not over length (R156, R158). A damaged character
whose value reads as LF is an LF here and ends the line: the model's choice (log entry 19). -/
def goodLine (chars : List RxByte) : Bool :=
  (chars.map RxByte.value).getLast? = some Machine.charLF &&
    (chars.dropLast.all fun c => c.value ≠ Machine.charLF) &&
    decide (chars.length ≤ Config.maxLine)

/-- A command as the outside can give it. -/
def Instr.wellFormed : Instr → Bool
  | .point _ _ q fs => goodRequest q (Machine.verbText .point) fs
  | .drop _ _ q fs => goodRequest q (Machine.verbText .drop) fs
  | .bank _ _ q fs => goodRequest q (Machine.verbText .bank) fs &&
      !(fs.length == 2 && fs.getLast? == some (Machine.asc "NONE"))
  | .bankRemoval _ _ q b => goodRequest q (Machine.verbText .bank) [b, Machine.asc "NONE"]
  | .openSession _ _ q fs => goodRequest q (Machine.verbText .openSession) fs
  | .closeSession _ _ q fs => goodRequest q (Machine.verbText .closeSession) fs
  | .setSetting _ _ q fs => goodRequest q (Machine.verbText .setSetting) fs
  | .start _ _ q fs => goodRequest q (Machine.verbText .start) fs
  | .resume _ _ q fs => goodRequest q (Machine.verbText .resume) fs
  | .restart _ _ q fs => goodRequest q (Machine.verbText .restart) fs
  | .stage _ _ q fs => goodRequest q (Machine.verbText .stage) fs
  | .seal _ _ q fs => goodRequest q (Machine.verbText .seal) fs
  | .join _ _ q fs => goodRequest q (Machine.verbText .join) fs
  | .leave _ _ q fs => goodRequest q (Machine.verbText .leave) fs
  | .handover _ _ q fs => goodRequest q (Machine.verbText .handover) fs
  | .returnLane _ _ q fs => goodRequest q (Machine.verbText .returnLane) fs
  | .status _ _ q fs => goodRequest q (Machine.verbText .status) fs
  | .lanes _ _ q fs => goodRequest q (Machine.verbText .lanes) fs
  | .points _ _ q fs => goodRequest q (Machine.verbText .points) fs
  | .banks _ _ q fs => goodRequest q (Machine.verbText .banks) fs
  | .round _ _ q fs => goodRequest q (Machine.verbText .round) fs
  | .digest _ _ q fs => goodRequest q (Machine.verbText .digest) fs
  | .faults _ _ q fs => goodRequest q (Machine.verbText .faults) fs
  | .ack _ _ q fs => goodRequest q (Machine.verbText .ack) fs
  | .unknownVerb _ _ q v fs => goodRequest q v fs && (Machine.readVerb v).isNone
  | .lineEnd _ _ chars => goodLine chars
  | .lineOverLength _ _ => true
  | .replyEnd _ _ => true
  | .pgFall _ _ => true
  | .pgRise _ _ => true
  | .powerOnReset => true
  | .resetNLow => true
  | .resetEnd _ => true
  | .roundTimerExpiry _ => true
  | .quietTimerExpiry _ _ => true
  | .confirmTimerExpiry _ _ => true
  | .holdExpiry _ _ => true
  | .suspendedUntilReached _ _ => true
  | .sessionIdleExpiry _ => true
  | .warmingSettleDeadline _ _ => true
  | .switchingSettleDeadline _ _ => true
  | .surveyDue _ _ => true
  | .driverFrameSent _ _ => true
  | .replyTimerExpiry _ _ _ => true
  | .driverFrameReceived _ _ bytes => !bytes.isEmpty

end Sys2Proof
end

