-- ==== Sys2Proof/Safety.lean ====
section
/-! DEFINITION. What the statements speak of: when a lane's line is taken and executed at its own LF, what a taken line leaves
besides its own effect, and the laws that every step keeps. -/

namespace Sys2Proof.Machine

/-! ## Lines -/

/-- Device time `now` has reached `d` (log entry 6). -/
abbrev Due (now d : Time) : Prop := (now - d).toNat < 2147483648

/-- The instant `now` has reached the instant `e`: by device time, and within the millisecond of `e` by the microseconds (log
entry 6). -/
abbrev DueAt (now e : Moment) : Prop := if now.ms = e.ms then e.us ≤ now.us else Due now.ms e.ms

/-- Outside a reset, with the lane's receive queue empty, its transmitter idle and no other line under way, a line of lane `l` is taken
at its own LF (R141, R158, R159). -/
def State.Listens (s : State) (l : Lane) : Prop :=
  s.inReset = false ∧ (s.port l).queue = [] ∧ (s.port l).sending = none ∧ (s.port l).assembling = [] ∧
    (s.port l).dropping = false

/-- A line with sequence number `q` and a sequenced verb is taken at its own LF and goes on past the sequence decision (R159,
R161). -/
def State.Expects (s : State) (l : Lane) (q : Byte) : Prop :=
  s.Listens l ∧ (s.port l).expected = some q

/-- A line of lane `l` ends `dt` microseconds after the event before and is taken: device time has advanced (R186), a running quiet
timer has restarted (R58), and so has the idle timer of the session holder (R128). -/
def State.heard (s : State) (dt : Nat) (l : Lane) : State :=
  { s with
    clock := s.clock.after dt
    lanes := s.lanes.set l { s.lane l with
      quiet := (s.lane l).quiet.map fun _ => (s.advance dt).expiry s.settings.quiet }
    idle := if s.session = some l then some ((s.advance dt).expiry s.settings.session) else s.idle }

/-- The state in which the owner of a line finds the part when the line is taken and goes on past the sequence decision: the
expected number is the one after the line's own (R161, R162). -/
def State.taking (s : State) (dt : Nat) (l : Lane) (q : Byte) : State :=
  { s.heard dt l with ports := s.ports.set l { s.port l with expected := some (q + 1#8) } }

/-- The port answers: its transmitter is busy with the reply, which carries the lane's unread count (R166, R167). -/
def State.replied (t : State) (l : Lane) (q : Byte) (body : List Text) : State :=
  { t with ports := t.ports.set l { t.port l with sending := some { seq := q, body, unread := t.log.unread l } } }

/-- What a line that went on leaves in its port once its owner has left the part as `t`: the stored line and reply (R163), and the
transmitter busy with the reply. -/
def State.answered (t : State) (l : Lane) (q : Byte) (line : Text) (body : List Text) : State :=
  { t with ports := t.ports.set l { t.port l with
      stored := some { line, body }, sending := some { seq := q, body, unread := t.log.unread l } } }

/-- The command that is a request with this verb. -/
def requestOf (v : Verb) (dt : Nat) (l : Lane) (q : Byte) (fields : List Text) : Instr :=
  match v with
  | .point => .point dt l q fields
  | .drop => .drop dt l q fields
  | .bank => .bank dt l q fields
  | .openSession => .openSession dt l q fields
  | .closeSession => .closeSession dt l q fields
  | .setSetting => .setSetting dt l q fields
  | .start => .start dt l q fields
  | .resume => .resume dt l q fields
  | .restart => .restart dt l q fields
  | .stage => .stage dt l q fields
  | .seal => .seal dt l q fields
  | .join => .join dt l q fields
  | .leave => .leave dt l q fields
  | .handover => .handover dt l q fields
  | .returnLane => .returnLane dt l q fields
  | .status => .status dt l q fields
  | .lanes => .lanes dt l q fields
  | .points => .points dt l q fields
  | .banks => .banks dt l q fields
  | .round => .round dt l q fields
  | .digest => .digest dt l q fields
  | .faults => .faults dt l q fields
  | .ack => .ack dt l q fields

/-- The command is a request with this verb and these fields; the line BANK b NONE comes as BANK_REMOVAL too. -/
def IsRequest (c : Instr) (v : Verb) (dt : Nat) (l : Lane) (q : Byte) (fields : List Text) : Prop :=
  c = requestOf v dt l q fields ∨ v = .bank ∧ ∃ b, fields = [b, asc "NONE"] ∧ c = .bankRemoval dt l q b

/-- The command is a line with this verb and these fields, of a verb the part knows or of one it does not (R164). -/
def IsLine (c : Instr) (verb : Text) (dt : Nat) (l : Lane) (q : Byte) (fields : List Text) : Prop :=
  (∃ v, verb = verbText v ∧ IsRequest c v dt l q fields) ∨ c = .unknownVerb dt l q verb fields

/-- The characters `text` are an accepted spelling, from the marker through the CRC, of the request line with this sequence number, verb
and fields: hexadecimal digits in either case, and one or more spaces before each field and before the asterisk (R157, R180, log entry
10). -/
def Spells (text : Text) (q : Byte) (verb : Text) (fields : List Text) : Prop :=
  ∃ (h i : Byte) (gaps : List Nat) (last : Nat) (crc : Text),
    let spaces (n : Nat) := List.replicate (n + 1) charSpace
    let covered := [charColon, h, i, charSpace] ++ verb ++
      (gaps.zip fields).flatMap (fun g => spaces g.1 ++ g.2) ++ spaces last
    text = covered ++ charStar :: crc ∧ gaps.length = fields.length ∧ readHex 2 [h, i] = some q.toNat ∧
      readHex 4 crc = some (crc16 covered).toNat ∧ goodToken verb = true ∧ ∀ f ∈ fields, goodToken f = true

/-- The characters of a line as they reach the port undamaged, CR and LF at the end. -/
def lineChars (text : Text) : List RxByte := (text ++ [charCR, charLF]).map (RxByte.mk · false)

/-- The command sends the line `text` with this verb and these fields: as the row of its canonical spelling, or as the characters of any
accepted one. -/
def Sends (c : Instr) (text verb : Text) (dt : Nat) (l : Lane) (q : Byte) (fields : List Text) : Prop :=
  text = requestText q verb fields ∧ IsLine c verb dt l q fields ∨
    Spells text q verb fields ∧ c = .lineEnd dt l (lineChars text)

/-- How a request that takes one field is refused for its form; `refused` says that the fields are refused with these words. That the
count goes before the field where the rule gives no order is the model's reading (log entry 9). -/
def RefusesForm (refused : List Text → List Text → Prop) (missing name : String) (bad : Text → Prop) : Prop :=
  refused [] [asc "FIELD", asc missing] ∧ (∀ t, bad t → refused [t] [asc "FIELD", asc name]) ∧
    ∀ t u us, refused (t :: u :: us) [asc "FIELD", asc "COUNT"]

/-- The text of a line that passes check 3 of R158, by the characters its CRC covers and the number its four digits spell. -/
def ShapedLine (text covered : Text) (crc : Nat) : Prop :=
  ∃ digits, text = covered ++ charStar :: digits ++ [charCR, charLF] ∧ readHex 4 digits = some crc ∧
    covered.head? = some charColon ∧ covered.getLast? = some charSpace ∧ covered.all lineChar = true

/-- The covered characters pass check 5 of R158. -/
def HeadedLine (covered : Text) : Prop :=
  ∃ h i v rest, covered = charColon :: h :: i :: charSpace :: v :: rest ∧ (readHex 2 [h, i]).isSome = true ∧ v ≠ charSpace

/-- The first of the checks 2 to 5 of R158 that the line fails gives this cause. -/
def FailsLine (line : List RxByte) (w : LineFault) : Prop :=
  let text := line.map RxByte.value
  let damaged := ∃ x ∈ line, x.damaged = true
  damaged ∧ w = .check ∨
  ¬ damaged ∧ (∀ covered crc, ¬ ShapedLine text covered crc) ∧ w = .form ∨
  ¬ damaged ∧ ∃ covered crc, ShapedLine text covered crc ∧
    ((crc16 covered).toNat ≠ crc ∧ w = .check ∨ (crc16 covered).toNat = crc ∧ ¬ HeadedLine covered ∧ w = .form)

/-- The microseconds a command says have passed since the event before it; none for the commands of a reset. -/
def elapsed : Instr → Option Nat
  | .point dt _ _ _ | .drop dt _ _ _ | .bank dt _ _ _ | .bankRemoval dt _ _ _ | .openSession dt _ _ _
  | .closeSession dt _ _ _ | .setSetting dt _ _ _ | .start dt _ _ _ | .resume dt _ _ _ | .restart dt _ _ _
  | .stage dt _ _ _ | .seal dt _ _ _ | .join dt _ _ _ | .leave dt _ _ _ | .handover dt _ _ _ | .returnLane dt _ _ _
  | .status dt _ _ _ | .lanes dt _ _ _ | .points dt _ _ _ | .banks dt _ _ _ | .round dt _ _ _ | .digest dt _ _ _
  | .faults dt _ _ _ | .ack dt _ _ _ | .unknownVerb dt _ _ _ _ | .lineEnd dt _ _ | .lineOverLength dt _
  | .replyEnd dt _ | .pgFall dt _ | .pgRise dt _ | .roundTimerExpiry dt | .quietTimerExpiry dt _
  | .confirmTimerExpiry dt _ | .holdExpiry dt _ | .suspendedUntilReached dt _ | .sessionIdleExpiry dt
  | .warmingSettleDeadline dt _ | .switchingSettleDeadline dt _ | .surveyDue dt _ | .driverFrameSent dt _
  | .replyTimerExpiry dt _ _ | .driverFrameReceived dt _ _ => some dt
  | .powerOnReset | .resetNLow | .resetEnd _ => none

/-- The lane on whose link a command arrives, for the requests and the events of a lane link. -/
def linkLane : Instr → Option Lane
  | .point _ l _ _ | .drop _ l _ _ | .bank _ l _ _ | .bankRemoval _ l _ _ | .openSession _ l _ _
  | .closeSession _ l _ _ | .setSetting _ l _ _ | .start _ l _ _ | .resume _ l _ _ | .restart _ l _ _
  | .stage _ l _ _ | .seal _ l _ _ | .join _ l _ _ | .leave _ l _ _ | .handover _ l _ _ | .returnLane _ l _ _
  | .status _ l _ _ | .lanes _ l _ _ | .points _ l _ _ | .banks _ l _ _ | .round _ l _ _ | .digest _ l _ _
  | .faults _ l _ _ | .ack _ l _ _ | .unknownVerb _ l _ _ _ | .lineEnd _ l _ | .lineOverLength _ l
  | .replyEnd _ l => some l
  | .pgFall _ _ | .pgRise _ _ | .powerOnReset | .resetNLow | .resetEnd _ | .roundTimerExpiry _ | .quietTimerExpiry _ _
  | .confirmTimerExpiry _ _ | .holdExpiry _ _ | .suspendedUntilReached _ _ | .sessionIdleExpiry _
  | .warmingSettleDeadline _ _ | .switchingSettleDeadline _ _ | .surveyDue _ _ | .driverFrameSent _ _
  | .replyTimerExpiry _ _ _ | .driverFrameReceived _ _ _ => none

/-! ## Configuration -/

/-- Lane `l` holds the session in CONFIGURE and its sequenced line `q` is taken at its own LF (R125, R159). -/
def State.Configures (s : State) (l : Lane) (q : Byte) : Prop :=
  s.Expects l q ∧ s.role l ≠ .excluded ∧ s.mode = .configure ∧ s.session = some l

/-- Bank `b` is in use: defined, and holding a defined point (R85). -/
abbrev State.Serves (s : State) (b : BankNo) : Prop :=
  (s.bank b).defn.isSome = true ∧ ∃ k : SlotNo, (s.point (pointAt b k)).defn.isSome = true

/-- In CONFIGURE, bank `b` is re-evaluated, DOWN if it is in use and UNUSED otherwise, and the digest recomputed (R90, R132). -/
def State.reconfigured (s : State) (b : BankNo) : State :=
  let t := { s with banks := s.banks.set b { s.bank b with
    state := if s.Serves b then .down else .unused, enable := false } }
  { t with digest := crc32 (configBytes t.points t.banks t.settings) }

/-- The code of the record that each mode change appends last; none where the part makes no such change (R123). -/
def modeRecord : Mode → Mode → Option Code
  | .configure, .run => some .started
  | .run, .safe => some .safeEntered
  | .safe, .run => some .resumed
  | .run, .configure => some .restarted
  | .safe, .configure => some .restarted
  | _, _ => none

/-! ## The lanes and the vote -/

/-- The collecting round without lane `l`: its slots empty, the lane out of the seal set, the timer stopped if nobody has sealed
(R27). -/
def Collecting.without (c : Collecting) (l : Lane) : Collecting :=
  { slots := c.slots.set l (Vector.replicate 64 none)
    sealed := c.sealed.set l false
    timer := if c.sealed.set l false = noLanes then none else c.timer }

/-- The lane's suspended-until is absent or device time has reached it (R46, R57, log entry 6). -/
def State.MayEnter (s : State) (l : Lane) : Prop :=
  ∀ d, (s.lane l).suspendedUntil = some d → Due s.now d

/-- While `c` collects, some voter other than `l` has not sealed: the round does not become ready when `l` seals or departs (R25,
R28). -/
def State.StillOpen (s : State) (c : Collecting) (l : Lane) : Prop :=
  ∃ m, m ≠ l ∧ (s.role m).voting = true ∧ c.sealed.get m = false

/-- The frame of the step an exchange is in (R96, R97, R100). -/
def stepFrame (address : Nat) (x : Exchange) : Frame :=
  { address, kind := askKind x.phase, tag := x.tag, entries := if x.phase = .load then x.loaded else [] }

/-- Link `k` has no exchange in flight, its choice is not held back, and the rotation comes to bank `b` (R95). -/
def State.Chooses (x : State) (k : LinkNo) (b : BankNo) : Prop :=
  (x.link k).transaction = none ∧ x.heldBack k = false ∧ x.choice k = some b

/-- Bank `b` has pending slots or resync set: its exchange is an APPLY (R95). -/
def BankRec.Applies (r : BankRec) : Prop := (∃ i : SlotNo, r.pendingSet[i] = true) ∨ r.resync = true

/-- The first attempt of the exchange that link `k` starts for bank `b` in `x`: an APPLY with the next tag that loads the targets of the
bank's pending slots, or of all its defined slots with resync set, and where there are none of these a SURVEY (R95, R96, R100). -/
def State.Opens (x : State) (k : LinkNo) (b : BankNo) (e : Exchange) : Prop :=
  e.link = k ∧ e.attempt = .first ∧
  ((x.bank b).Applies → e.phase = .load ∧ e.tag = (x.bank b).tag + 1#8 ∧
    e.loaded = (List.finRange 8).filterMap fun i =>
      if (x.point (pointAt b i)).defn.isSome ∧ ((x.bank b).resync = true ∨ (x.bank b).pendingSet[i] = true)
      then (x.point (pointAt b i)).target.map (Entry.mk i) else none) ∧
  (¬ (x.bank b).Applies → e.phase = .survey ∧ e.tag = (x.bank b).tag ∧ e.loaded = [])

/-- Link `k` has started the exchange of bank `b` at an event that left the part as `x` (R12, R95, R96, R100). -/
def State.Started (x : State) (k : LinkNo) (b : BankNo) (t : State) : Prop :=
  ∃ e, x.Opens k b e ∧
    t.bank b = { x.bank b with
      tag := e.tag, pendingSet := Vector.replicate 8 false, resync := false, exchange := some e } ∧
    t.link k = { x.link k with
      pointer := b, settledAt := none, transaction := some {
        bank := b, wait := .sending, frame := stepFrame (((x.bank b).defn.map BankDef.address).getD 0) e } } ∧
    ∀ i : SlotNo, t.point (pointAt b i) = if ∃ y ∈ e.loaded, y.slot = i
      then { x.point (pointAt b i) with state := .loading } else x.point (pointAt b i)

/-- The controllers of the links `ks` have made their choices at an event that left the part as `x`: each that is idle, is not held back
and has a candidate has started an exchange, and nothing else has changed (R95). -/
structure Served (ks : List LinkNo) (x t : State) : Prop where
  started : ∀ k ∈ ks, ∀ b, x.Chooses k b → x.Started k b t
  links : ∀ k, (k ∈ ks → ∀ b, ¬ x.Chooses k b) → t.link k = x.link k
  banks : ∀ b, (∀ k ∈ ks, ¬ x.Chooses k b) → t.bank b = x.bank b
  points : ∀ p, (∀ k ∈ ks, ¬ x.Chooses k (bankOf p)) → t.point p = x.point p
  rest : t = { x with points := t.points, banks := t.banks, links := t.links }

/-- Both links. -/
abbrev bothLinks : List LinkNo := [.one, .two]

/-! ## What a lane's leaving the vote leaves -/

/-- A lane record of a lane that goes to ABSENT (R60, R66, R75). -/
def LaneRec.away (r : LaneRec) : LaneRec :=
  { r with role := .absent, strikes := 0, streak := 0, probClean := 0, probFails := 0, quiet := none }

/-- A lane record of a lane that is excluded (R56, R73). -/
def LaneRec.out (r : LaneRec) : LaneRec :=
  { r with
    role := .excluded, strikes := 0, streak := 0, probClean := 0, probFails := 0, suspendedUntil := none, quiet := none
    holdDeadline := none, roleBefore := none, carriedStrikes := none, carriedStreak := none }

/-- The lane's next suspension stays below SUSPLIMIT; the one that reaches or exceeds it excludes the lane (R55). -/
abbrev State.Suspends (s : State) (l : Lane) : Prop := (s.lane l).suspensions + 1 < s.settings.susplimit

/-- The lane record that a suspension leaves (R55, R56). -/
def State.gone (s : State) (l : Lane) : LaneRec :=
  if s.Suspends l then
    { (s.lane l).out with
      role := .suspended, suspensions := (s.lane l).suspensions + 1,
      suspendedUntil := some (s.deadline s.settings.suspend) }
  else { (s.lane l).out with suspensions := (s.lane l).suspensions + 1 }

/-- The record of a suspension for the cause `why`, SUSPENDED or EXCLUDED (R55, R56). -/
def State.goneRecord (s : State) (l : Lane) (why : SuspendCause) : Event :=
  if s.Suspends l then
    { code := .suspended, lane := some l, cause := some (.suspend why),
      values := [(s.lane l).suspensions + 1, s.settings.suspend] }
  else { code := .excluded, lane := some l, cause := some .limit, values := [(s.lane l).suspensions + 1] }

/-- The lane record and the record of a suspension (R55, R56). -/
def State.suspending (s : State) (l : Lane) (why : SuspendCause) : State :=
  { s with lanes := s.lanes.set l (s.gone l) }.append (s.goneRecord l why)

/-- A lane record of a voter that goes to HELD until `deadline` (R72). -/
def LaneRec.holding (r : LaneRec) (deadline : Moment) : LaneRec :=
  { r with
    role := .held, roleBefore := some r.role, carriedStrikes := some r.strikes, carriedStreak := some r.streak
    strikes := 0, streak := 0, quiet := none, holdDeadline := some deadline }

/-- The flap check passes: no return of the supply, or one at least FLAP milliseconds ago (R72). -/
abbrev State.Steady (s : State) (l : Lane) : Prop :=
  ∀ u ∈ (s.lane l).lastReturn, s.settings.flap ≤ (s.now - u).toNat

/-- The POWER_LOSS record of a confirmed loss (R71). -/
def State.lossRecord (s : State) (l : Lane) (why : Cause) : Event :=
  { code := .powerLoss, lane := some l, round := some s.round, cause := some why
    values := match (s.lane l).lastReturn with
      | some u => [(s.now - u).toNat]
      | none => [] }

/-- A confirmed loss in which the lane takes the record `r` (R71). -/
def State.lost (s : State) (l : Lane) (r : LaneRec) (why : Cause) : State :=
  { s with lanes := s.lanes.set l { r with power := .low, confirm := none } }.append (s.lossRecord l why)

/-- A confirmed loss that fails the flap check: POWER_LOSS, then EXCLUDED with cause FLAP (R73). -/
def State.flapped (s : State) (l : Lane) : State :=
  (s.lost l (s.lane l).out (.role (s.role l))).append
    { code := .excluded, lane := some l, cause := some .flap, values := [(s.lane l).suspensions] }

/-- An accepted LEAVE, before what the departure causes (R60). -/
def State.leaving (s : State) (l : Lane) (r : LaneRec) : State :=
  { s with lanes := s.lanes.set l r.away }.append { code := .left, lane := some l, cause := some .request }

/-- A quiet expiry, before what the departure causes (R59). -/
def State.silenced (s : State) (l : Lane) : State :=
  (s.append { code := .quiet, lane := some l, cause := some (.role (s.role l)) }).suspending l .quiet

/-- The code of the record of a suspension (R55). -/
def State.goneCode (s : State) (l : Lane) : Code := if s.Suspends l then .suspended else .excluded

/-- The lane that takes a vacant control: the first STANDBY lane in the order A, B, C, where no lane is IN_CONTROL (R63). -/
def State.heir (s : State) : Option Lane :=
  if ∃ m ∈ Lane.all, s.role m = .inControl then none else Lane.all.find? fun m => s.role m = .standby

/-- Steps 2 and 3 of the departure of lane `l` while `c` collects, its new lane record and record standing in `s`: the contribution is
withdrawn, and a vacant control passes with a CONTROL record (R63, R64). -/
def State.departing (s : State) (c : Collecting) (l : Lane) : State :=
  let s := { s with collecting := some (c.without l) }
  match s.heir with
  | none => s
  | some n => { s with lanes := s.lanes.set n { s.lane n with role := .inControl } }.append
      { code := .control, lane := some n, round := some s.round, cause := some .assign }

/-- A point's safe value is written as its target; a change by it leaves no last change round (R9, R11). -/
def safeWritten (x : PointRec × Bool) : PointRec × Bool :=
  match x.1.defn with
  | none => x
  | some d =>
    if x.1.target = some d.safe then x
    else ({ (writeTarget d.safe x.1 x.2).1 with changed := none }, (writeTarget d.safe x.1 x.2).2)

/-- The records of a SAFE entry that the record `why` of lane `l` brings about: a LEFT record for each PROBATION lane, then SAFE_ENTERED
with the number of targets it changes (R66, R135). -/
def State.safeRecords (s : State) (l : Lane) (why : Code) (round changed : Nat) : List Event :=
  (Lane.all.filter fun m => s.role m = .probation).map (fun m => { code := .left, lane := some m, cause := some .safe }) ++
    [{ code := .safeEntered, lane := some l, round := some round, cause := some (.code why), values := [changed] }]

/-- The points whose record and membership in the pending set `f` gives have a target other than their safe value (R135). -/
def unsafeTargets (f : PointNo → PointRec × Bool) : List PointNo :=
  (List.finRange 64).filter fun p => (f p).1.defn.isSome && (f p).1.target ≠ (f p).1.defn.map PointDef.safe

/-- SAFE has been entered from RUN in `s` at this event, leaving the part as `t`: the collecting round is discarded, PROBATION lanes go
to ABSENT, every defined point's target is written with its safe value, the round number and the summary stay, and the newest
records are those of the entry (R11, R42, R66, R135). Then the link controllers choose (R95). -/
structure SafeEntered (s : State) (l : Lane) (why : Code) (t : State) : Prop where
  mode : t.mode = .safe
  collecting : t.collecting = none
  lanes : ∀ m, t.lane m = if s.role m = .probation then (s.lane m).away else s.lane m
  log : t.log = ((s.safeRecords l why s.round
    (unsafeTargets fun p => (s.point p, s.slotPending p)).length).foldl State.append s).log
  written : ∃ u, Served bothLinks u t ∧ u.links = s.links ∧
    (∀ p, (u.point p, u.slotPending p) = safeWritten (s.point p, s.slotPending p)) ∧
    ∀ b, u.bank b = { s.bank b with pendingSet := (u.bank b).pendingSet }
  targets : ∀ p d, (s.point p).defn = some d → (s.point p).state ≠ .inert → (s.point p).state ≠ .undefined →
    (t.point p).target = some d.safe
  rest : t = { s with
    mode := t.mode, collecting := t.collecting, lanes := t.lanes, log := t.log, points := t.points, banks := t.banks
    links := t.links }

/-! ## The close of a round -/

/-- The vote on point `p` with tolerance `tol` and target `old` at the close of `c`: the voters' opinions in the order A, B, C (R31). -/
def State.voteAt (s : State) (c : Collecting) (p : PointNo) (tol old : Nat) : PointVote :=
  votePoint tol s.control
    ((Lane.all.filter fun l => (s.role l).voting && c.sealed.get l).map fun l => (l, (c.slot l p).getD old))

/-- The defined points, in ascending order, whose number, target and vote at the close of `c` satisfy `f`, given the tolerance. -/
def State.votedWhere (s : State) (c : Collecting) (f : PointNo → Nat → Nat → PointVote → Bool) : List PointNo :=
  (List.finRange 64).filter fun p => match (s.point p).defn, (s.point p).target with
    | some d, some old => f p d.tol old (s.voteAt c p d.tol old)
    | _, _ => false

/-- The points on which lane `l` is marked as a dissenter at the close of `c` (R32, R36). -/
def State.dissentedOn (s : State) (c : Collecting) (l : Lane) : List PointNo :=
  s.votedWhere c fun _ _ _ v => v.dissenter = some l

/-- The points on which the opinion of lane `l` lies beyond tolerance of the target after the close of `c` (R37). -/
def State.disagreedOn (s : State) (c : Collecting) (l : Lane) : List PointNo :=
  s.votedWhere c fun p tol old v =>
    let result := v.target.getD old
    let opinion := (c.slot l p).getD old
    tol < max (opinion - result) (result - opinion)

/-- A point's record and its membership in the pending set as the result of the close of `c` leaves them (R10, R35). -/
def State.voted (s : State) (c : Collecting) (p : PointNo) : PointRec × Bool :=
  match (s.point p).defn, (s.point p).target with
  | some d, some old => takeResult s.round (s.voteAt c p d.tol old) (s.point p) (s.slotPending p)
  | _, _ => (s.point p, s.slotPending p)

/-- The record the Round Voter makes for the points of one outcome, if there are any (R39). -/
def outcomeRecords (round : Nat) (code : Code) (ps : List PointNo) : List Event :=
  match ps with
  | [] => []
  | p :: _ => [{ code, round := some round, point := some p, values := [ps.length] }]

/-- The record of the suspension that the next strike of lane `l` brings about, if it does (R51, R55). -/
def State.strikeOut (s : State) (l : Lane) : List Event :=
  if (s.lane l).strikes + 1 = s.settings.strikes then [s.goneRecord l .strikes] else []

/-- Some voter has sealed at the close of `c`: a lane in PROBATION is judged (R37). -/
def State.judges (s : State) (c : Collecting) : Bool := Lane.all.any fun m => (s.role m).voting && c.sealed.get m

/-- The LATE or DISSENT record of a voter at the close of `c`, and that of the suspension its strike brings about (R36, R52). -/
def State.voterRecords (s : State) (c : Collecting) (l : Lane) : List Event :=
  if c.sealed.get l then
    match s.dissentedOn c l with
    | [] => []
    | p :: ps => { code := .dissent, lane := some l, round := some s.round, point := some p,
                   values := [(p :: ps).length, (s.lane l).strikes + 1] } :: s.strikeOut l
  else { code := .late, lane := some l, round := some s.round, values := [(s.lane l).strikes + 1] } :: s.strikeOut l

/-- The records of the probation result of lane `l` at the close of `c`: QUALIFIED where it completes the probation, PROBATION_MISS and
the suspension it brings about where it is FAILED (R48, R49). -/
def State.probationRecords (s : State) (c : Collecting) (l : Lane) : List Event :=
  if c.sealed.get l ∧ s.disagreedOn c l = [] then
    if (s.lane l).probClean + 1 = s.settings.probation then
      [{ code := .qualified, lane := some l, round := some s.round }]
    else []
  else { code := .probationMiss, lane := some l, round := some s.round,
         point := if c.sealed.get l then (s.disagreedOn c l).head? else none, values := [(s.lane l).probFails + 1] } ::
    if (s.lane l).probFails + 1 = s.settings.probfail then [s.goneRecord l .probation] else []

/-- The records that the findings of the close of `c` give about lane `l` itself, in their order. -/
def State.closeRecords (s : State) (c : Collecting) (l : Lane) : List Event :=
  if (s.role l).voting then s.voterRecords c l
  else if s.role l = .probation ∧ s.judges c then s.probationRecords c l
  else []

/-- What the Lane Supervisor's records of the close of `c` are, as the part is left as `t`: the records about each lane, those of the
findings in the order of the batch, CONTROL records that end at the new holder, and the records of SAFE entry last, which name the
lane of the record right before them: the last one the batch takes out of the vote, and how (R38, R52, R63, R66, R135). -/
structure BatchRecords (s : State) (c : Collecting) (t : State) (es : List Event) : Prop where
  lanes : ∀ l, es.filter (fun e => e.lane = some l ∧ e.code ∉ [.control, .left, .safeEntered]) = s.closeRecords c l
  order : es.filter (fun e => e.code ∈ [.late, .dissent, .qualified, .probationMiss]) =
    [[Code.late], [.dissent], [.qualified, .probationMiss]].flatMap fun kinds =>
      Lane.all.flatMap fun l => (s.closeRecords c l).filter fun e => e.code ∈ kinds
  named : ∀ e ∈ es, e.lane ≠ none
  control : ∀ e ∈ es, e.code = .control → e =
    { code := .control, lane := e.lane, round := some t.round, cause := some .assign }
  holder : ∀ n, t.role n = .inControl → s.role n = .inControl ∨
    (es.filter fun e => e.code = .control).getLast?.bind Event.lane = some n
  run : t.mode = .run → ∀ e ∈ es, e.code ≠ .left ∧ e.code ≠ .safeEntered
  safe : t.mode = .safe → ∃ l before, (s.role l).voting = true ∧ before.getLast? = some (s.goneRecord l .strikes) ∧
    es = before ++ s.safeRecords l (s.goneCode l) t.round
      (unsafeTargets (s.voted c)).length ∧ ∀ e ∈ before, e.code ≠ .left ∧ e.code ≠ .safeEntered

/-- Lane `l` has been suspended between `s` and `t`, or excluded where its suspension count has reached SUSPLIMIT (R55, R56). -/
def Gone (s t : State) (l : Lane) : Prop := t.lane l = s.gone l

/-- Lane `l` has taken one strike between `s` and `t`: counted below STRIKES, out of the vote at STRIKES (R51, R55). -/
def Struck (s t : State) (l : Lane) : Prop :=
  if (s.lane l).strikes + 1 = s.settings.strikes then Gone s t l
  else (t.role l = s.role l ∨ t.role l = .inControl) ∧
    t.lane l = { s.lane l with role := t.role l, strikes := (s.lane l).strikes + 1, streak := 0 }

/-- Lane `l` has taken one clean-round notice between `s` and `t` (R54). -/
def Cleaned (s t : State) (l : Lane) : Prop :=
  (t.role l = s.role l ∨ t.role l = .inControl) ∧
    t.lane l = if (s.lane l).streak + 1 = s.settings.decay
      then { s.lane l with role := t.role l, streak := 0, strikes := (s.lane l).strikes - 1 }
      else { s.lane l with role := t.role l, streak := (s.lane l).streak + 1 }

/-- Lane `l` has taken a probation result CLEAN between `s` and `t`; the one that completes the probation makes it a voter (R48). -/
def Passed (s t : State) (l : Lane) : Prop :=
  if (s.lane l).probClean + 1 = s.settings.probation then
    (t.role l).voting = true ∧
      t.lane l = { s.lane l with role := t.role l, probClean := 0, probFails := 0, strikes := 0, streak := 0 }
  else t.lane l = { s.lane l with probClean := (s.lane l).probClean + 1 }

/-- Lane `l` has taken a probation result FAILED between `s` and `t`; at PROBFAIL failures it is suspended (R49). -/
def Missed (s t : State) (l : Lane) : Prop :=
  if (s.lane l).probFails + 1 = s.settings.probfail then Gone s t l
  else t.lane l = { s.lane l with probClean := 0, probFails := (s.lane l).probFails + 1 }

/-- The round `c` that was collecting in RUN in `s` has closed at this event with this cause, leaving the part as `t`: its summary
(R41), the advance (R40) or the discard by SAFE entry (R42), the results (R10, R35), the findings about the voters (R36, R52), the
probation results (R37), and the records (R39, R52). A SPLIT writes its target as R33 says (log entry 18). Then the link controllers
choose (R95). -/
structure Closed (s : State) (c : Collecting) (cause : CloseCause) (t : State) : Prop where
  summary : ∃ m, t.summary = some m ∧ m.round = s.round ∧ m.cause = cause ∧ m.time = s.now ∧
    (∀ l, m.voters.get l = ((s.role l).voting && c.sealed.get l)) ∧
    (∀ l, m.late.get l = ((s.role l).voting && !c.sealed.get l)) ∧
    (∀ l, m.dissenters.get l = ((s.role l).voting && c.sealed.get l && !(s.dissentedOn c l).isEmpty)) ∧
    m.changed = (s.votedWhere c fun _ _ old v => v.target.getD old ≠ old).length ∧
    m.nomajority = (s.votedWhere c fun _ _ _ v => v.outcome = .nomajority).length ∧
    m.split = (s.votedWhere c fun _ _ _ v => v.outcome = .split).length
  round : t.round = if s.round = 65535 then 1 else s.round + 1
  next : t.mode = .run → t.collecting = some Collecting.empty
  discarded : t.mode ≠ .run → t.mode = .safe ∧ t.collecting = none
  results : ∃ u, Served bothLinks u t ∧ u.links = s.links ∧
    (∀ p, (u.point p, u.slotPending p) = if t.mode = .safe then safeWritten (s.voted c p) else s.voted c p) ∧
    ∀ b, u.bank b = { s.bank b with pendingSet := (u.bank b).pendingSet }
  targets : t.mode = .run → ∀ p d old, (s.point p).defn = some d → (s.point p).target = some old →
    (s.point p).state ≠ .inert → (s.point p).state ≠ .undefined →
    let new := (s.voteAt c p d.tol old).target.getD old
    (t.point p).target = some new ∧ (t.point p).changed = if new = old then (s.point p).changed else some s.round
  splits : ∀ p d old, (s.point p).defn = some d → (s.point p).target = some old →
    (t.point p).splits = if (s.voteAt c p d.tol old).outcome = .nomajority ∨ (s.voteAt c p d.tol old).outcome = .split
      then min ((s.point p).splits + 1) 65535 else (s.point p).splits
  late : ∀ l, (s.role l).voting = true → c.sealed.get l = false → Struck s t l
  dissent : ∀ l, (s.role l).voting = true → c.sealed.get l = true → s.dissentedOn c l ≠ [] → Struck s t l
  clean : ∀ l, (s.role l).voting = true → c.sealed.get l = true → s.dissentedOn c l = [] → Cleaned s t l
  passed : ∀ l, s.role l = .probation → s.judges c = true → c.sealed.get l = true → s.disagreedOn c l = [] → Passed s t l
  missed : ∀ l, s.role l = .probation → s.judges c = true → c.sealed.get l = false ∨ s.disagreedOn c l ≠ [] → Missed s t l
  unjudged : ∀ l, s.role l = .probation → s.judges c = false →
    t.lane l = if t.mode = .safe then (s.lane l).away else s.lane l
  outside : ∀ l, (s.role l).seated = false → t.lane l = s.lane l
  records : ∃ es, BatchRecords s c t es ∧
    t.log = ((outcomeRecords s.round .nomajority (s.votedWhere c fun _ _ _ v => v.outcome = .nomajority) ++
      outcomeRecords s.round .split (s.votedWhere c fun _ _ _ v => v.outcome = .split) ++ es).foldl State.append s).log
  rest : t = { s with
    mode := t.mode, summary := t.summary, round := t.round, collecting := t.collecting, lanes := t.lanes, log := t.log
    points := t.points, banks := t.banks, links := t.links }

/-- How the departure of lane `l` from the vote ends, its new lane record and its record `why` standing in `s` while `c` collects: the
round stays open while another voter is unsealed or no voter is left but some lane is HELD, closes where the other voters have all
sealed, and gives way to SAFE where no voting or HELD lane is left (R27, R28, R63, R64, R66). -/
structure DepartureEnds (s : State) (c : Collecting) (l : Lane) (why : Code) (t : State) : Prop where
  unsealed : s.StillOpen c l → Served bothLinks (s.departing c l) t
  allSealed : (∃ m, (s.role m).voting = true) → ¬ s.StillOpen c l → Closed (s.departing c l) (c.without l) .departure t
  held : (∀ m, (s.role m).voting = false) → (∃ m, s.role m = .held) → Served bothLinks (s.departing c l) t
  last : (∀ m, (s.role m).voting = false ∧ s.role m ≠ .held) → SafeEntered (s.departing c l) l why t

/-! ## Exchanges -/

/-- The reply bytes are well formed in answer to the exchange and carry the entries `es` (R93, R183). -/
def Answers (address : Nat) (x : Exchange) (es : List Entry) (bytes : List RxByte) : Prop :=
  es.length ≤ 8 ∧ (∀ y ∈ es, y.value ≤ 4095) ∧ ascending es = true ∧
  (match x.phase with
    | .load => True
    | .transfer => es.map Entry.slot = x.loaded.map Entry.slot
    | .survey => es.map Entry.slot = List.finRange 8) ∧
  bytes = (frameBytes { address, kind := answerKind x.phase, tag := x.tag, entries := es }).map (RxByte.mk · false)

/-- Bank `b` has the exchange `x` in flight on link `k`, which awaits the reply until `e` (R84, R92). -/
def State.Waits (s : State) (k : LinkNo) (b : BankNo) (d : BankDef) (x : Exchange) (e : Moment) : Prop :=
  s.inReset = false ∧ (s.bank b).defn = some d ∧ d.address ≤ 31 ∧ (s.bank b).exchange = some x ∧
    (s.link k).transaction = some { bank := b, frame := stepFrame d.address x, wait := .awaiting e }

/-- A valid reply on link `k`, or a failed attempt, in what a bank keeps for the link (R102). -/
def LinkRec.noted (r : LinkRec) (linkdecay : Nat) (valid : Bool) : LinkRec :=
  if valid = false then { r with streak := 0 }
  else if r.streak + 1 = linkdecay then { r with streak := 0, strikes := r.strikes - 1 }
  else { r with streak := r.streak + 1 }

/-- Steps 1 to 3 of the finish of the exchange of bank `b` on link `k`: the points and pending slots of the bank are as `f` leaves them,
the survey due time is set, and neither bank nor link has an exchange in flight (R99, R101, R102). -/
def State.exchangeOver (s : State) (k : LinkNo) (b : BankNo) (valid : Bool) (f : PointNo → PointRec → Bool → PointRec × Bool) :
    State :=
  { s with
    points := Vector.ofFn fun p => if bankOf p = b then (f p (s.point p) (s.slotPending p)).1 else s.point p
    banks := s.banks.set b { s.bank b with
      pendingSet := Vector.ofFn fun i => (f (pointAt b i) (s.point (pointAt b i)) (s.bank b).pendingSet[i]).2
      surveyDue := some (s.expiry s.settings.survey), exchange := none
      links := (s.bank b).links.set k (((s.bank b).links.get k).noted s.settings.linkdecay valid) }
    links := s.links.set k { s.link k with transaction := none } }

/-- A loaded point whose applied value has been written, reconciled against its target as it stands (R13). -/
def reconciled (r : PointRec) : PointRec × Bool :=
  if r.applied.isSome ∧ r.applied = r.target then ({ r with state := .settled }, false)
  else ({ r with state := .pending }, true)

/-- The value an entry list carries for the slot of a point. -/
def carried (es : List Entry) (p : PointNo) : Option Nat := (es.find? fun y => y.slot = slotOf p).map Entry.value

/-- The sensed values `es` confirm the value `v` of a point: its slot's sensed value is within the tolerance (R98, R101). -/
def confirms (es : List Entry) (p : PointNo) (v : Nat) (r : PointRec) : Bool :=
  match carried es p with
  | some w => max (w - v) (v - w) ≤ (r.defn.map PointDef.tol).getD 0
  | none => false

/-- One link strike on bank `b` for link `k`, its EXCHANGE_FAIL record first. Below LINKSTRIKES it is counted. At LINKSTRIKES the link is
FAILED with its record, and the bank fails over onto its other link while that is GOOD, SWITCHING until the settle deadline; where
both are FAILED the bank is DISQUALIFIED with its enable low and every defined point OFF (R103, R109, R110, R115, R116). -/
def State.linkStruck (s : State) (k : LinkNo) (b : BankNo) (why : Cause) (tag : Byte) (point : Option PointNo) (slots : Nat) :
    State :=
  let r := (s.bank b).links.get k
  let made := (List.finRange 64).filter fun p => bankOf p = b && (s.point p).defn.isSome
  let failed : Event := {
    code := .exchangeFail, bank := some b, link := some k, point, cause := some why,
    values := [tag.toNat, slots, r.strikes + 1] }
  let linkFailed (n : Nat) : Event := {
    code := .linkFailed, bank := some b, link := some k, cause := some why, values := [n] }
  let dead := (s.bank b).links.set k ⟨.failed, 0, 0⟩
  if r.strikes + 1 ≠ s.settings.linkstrikes then
    { s with banks := s.banks.set b { s.bank b with
      links := (s.bank b).links.set k { r with strikes := r.strikes + 1, streak := 0 } } }.append failed
  else if ((s.bank b).links.get k.other).mark = .good then
    (({ s with banks := s.banks.set b { s.bank b with
      links := dead, activeLink := some k.other, state := .switching
      settle := some (s.expiry s.settings.settle) } }.append failed).append (linkFailed 1)).append
      { code := .failover, bank := some b, link := some k.other, values := [match k with | .one => 1 | .two => 2] }
  else
    (({ s with
      points := Vector.ofFn fun p => if bankOf p = b ∧ (s.point p).defn.isSome = true
        then { s.point p with state := .off, applied := none } else s.point p
      banks := s.banks.set b { s.bank b with
        links := dead, activeLink := none, state := .disqualified, enable := false, pendingSet := Vector.replicate 8 false
        resync := false, settle := none, surveyDue := none } }.append failed).append (linkFailed 2)).append
      { code := .bankDisqualified, bank := some b, link := some k, point := made.head?, values := [made.length] }

/-! ## Laws that every step keeps -/

/-- The Fault Log as R142 and R152 describe it: at most 64 records with consecutive serials up to the next one, every cursor the
serial of a held record or the next serial, every gap count at most 255. -/
structure FaultLog.Ok (g : FaultLog) : Prop where
  size : g.ring.length ≤ Config.ringSize
  serials : ∀ x ∈ g.ring.map Record.serial ++ [g.next], x ≠ 0#32
  consecutive : List.IsChain (fun x y => serialAfter x = y) (g.ring.map Record.serial ++ [g.next])
  cursors : ∀ l, g.cursors.get l ∈ g.ring.map Record.serial ++ [g.next]
  gaps : ∀ l, g.gaps.get l ≤ Config.maxGap

/-- The held digest is the CRC-32 of the definitions and settings in force (R132). -/
def State.DigestOk (s : State) : Prop := s.digest = s.configDigest

/-- The lane records fit their roles and the roles fit the mode (R19, R45, R57, R58, R63, R66, R69, R72, R76, R123). -/
structure State.RolesOk (s : State) : Prop where
  configure : s.mode = .configure → ∀ l, s.role l = .absent ∨ s.role l = .excluded
  safe : s.mode = .safe → ∀ l, s.role l = .absent ∨ s.role l = .suspended ∨ s.role l = .excluded
  run : s.mode = .run → ∃ l, (s.role l).voting = true ∨ s.role l = .held
  oneControl : ∀ l m, s.role l = .inControl → s.role m = .inControl → l = m
  control : ∀ l, s.role l = .standby → ∃ m, s.role m = .inControl
  collecting : s.collecting.isSome = true ↔ s.mode = .run
  session : ∀ l, s.session = some l → s.mode = .configure ∧ s.role l = .absent
  idle : s.idle.isSome = s.session.isSome
  quiet : ∀ l, (s.lane l).quiet.isSome = (s.role l).seated
  confirm : ∀ l, (s.lane l).confirm.isSome = true ↔ (s.lane l).power = .confirming
  wait : ∀ l, (s.lane l).suspendedUntil.isSome = true → s.role l = .suspended ∨ s.role l = .absent
  held : ∀ l, s.role l = .held → (s.lane l).holdDeadline.isSome = true ∧ (s.lane l).carriedStrikes.isSome = true ∧
    (s.lane l).carriedStreak.isSome = true ∧
    ((s.lane l).roleBefore = some .standby ∨ (s.lane l).roleBefore = some .inControl)
  free : ∀ l, s.role l ≠ .held → (s.lane l).holdDeadline = none ∧ (s.lane l).roleBefore = none ∧
    (s.lane l).carriedStrikes = none ∧ (s.lane l).carriedStreak = none

/-- The collecting round as R18, R19, R25, R26 and R27 keep it: the round number fits the mode, the timer runs exactly while some
lane has sealed, only seated lanes have stages and seals, every stage lies in its point's range, and the round is not ready. -/
structure State.RoundOk (s : State) : Prop where
  cleared : s.mode = .configure → s.round = 0 ∧ s.summary = none
  number : s.mode ≠ .configure → 1 ≤ s.round
  bound : s.round ≤ Config.maxRound
  timer : ∀ c, s.collecting = some c → (c.timer.isSome = true ↔ c.sealed ≠ noLanes)
  unseated : ∀ c l, s.collecting = some c → (s.role l).seated = false →
    c.sealed.get l = false ∧ ∀ p, c.slot l p = none
  staged : ∀ c l p v, s.collecting = some c → c.slot l p = some v →
    ∃ d, (s.point p).defn = some d ∧ d.min ≤ v ∧ v ≤ d.max
  waiting : ∀ c, s.collecting = some c → s.ready c = false

/-- Bank `b` is ACTIVE on link `k` and its survey due time falls at device time `d`. -/
abbrev State.SurveysAt (s : State) (k : LinkNo) (b : BankNo) (d : Time) : Prop :=
  (s.bank b).state = .active ∧ (s.bank b).activeLink = some k ∧ (s.bank b).surveyDue.map Moment.ms = some d

/-- A survey due time of link `k` falls at the device time of another, or of the settle deadline last taken on it: the link may hold a
choice back for it (R95, log entry 7). -/
def State.SurveysTogether (s : State) (k : LinkNo) : Prop :=
  ∃ b d, s.SurveysAt k b d ∧ ((s.link k).settledAt = some d ∨ ∃ e, e ≠ b ∧ s.SurveysAt k e d)

/-- The bank records fit their states and the mode, the driver links carry exactly the exchanges in flight, and an idle link with no bank
in its settle period and no survey due time that falls together with another leaves no ACTIVE bank with pending slots or resync waiting
(R84, R85, R89, R90, R92, R95, R104, R106, R108, R110, R115). -/
structure State.BanksOk (s : State) : Prop where
  enable : ∀ b, (s.bank b).enable = true ↔
    (s.bank b).state = .warming ∨ (s.bank b).state = .active ∨ (s.bank b).state = .switching
  configure : s.mode = .configure → ∀ b,
    (s.bank b).state = (if s.inUse b then .down else .unused) ∧ (s.bank b).links = ⟨LinkRec.fresh, LinkRec.fresh⟩ ∧
    (s.bank b).tag = 0#8 ∧ (s.bank b).pendingSet = noSlots ∧ (s.bank b).resync = false ∧ (s.bank b).settle = none ∧
    (s.bank b).surveyDue = none ∧ (s.bank b).exchange = none
  used : s.mode ≠ .configure → ∀ b, (s.bank b).state ≠ .down ∧ ((s.bank b).state = .unused ↔ s.inUse b = false)
  defined : s.mode ≠ .configure → ∀ p, (s.point p).defined = true → (s.bank (bankOf p)).defn.isSome = true
  address : ∀ b d, (s.bank b).defn = some d → 1 ≤ d.address ∧ d.address ≤ 31
  unique : ∀ b c d e, (s.bank b).defn = some d → (s.bank c).defn = some e → d.address = e.address → b = c
  active : ∀ b, (s.bank b).activeLink = none ↔ (s.bank b).state = .disqualified
  good : ∀ b k, (s.bank b).activeLink = some k → ((s.bank b).links.get k).mark = .good
  failed : ∀ b k, (s.bank b).state = .disqualified → ((s.bank b).links.get k).mark = .failed
  settle : ∀ b, (s.bank b).settle.isSome = true ↔ (s.bank b).state = .warming ∨ (s.bank b).state = .switching
  resync : ∀ b, (s.bank b).resync = true → (s.bank b).state = .active ∧ (s.bank b).exchange = none
  exchange : ∀ b x, (s.bank b).exchange = some x → (s.bank b).state = .active ∧ (s.bank b).activeLink = some x.link ∧
    ∃ w, (s.link x.link).transaction = some { bank := b, frame := exchangeFrame (s.bank b).address x, wait := w }
  transaction : ∀ k t, (s.link k).transaction = some t → ∃ x, (s.bank t.bank).exchange = some x ∧ x.link = k
  served : ∀ k b, (s.link k).transaction = none →
    (∀ e, (s.bank e).activeLink = some k → (s.bank e).state ≠ .warming ∧ (s.bank e).state ≠ .switching) → ¬ s.SurveysTogether k →
    (s.bank b).state = .active → (s.bank b).activeLink = some k → ¬ (s.bank b).Applies

/-- A definition as R2 allows it. -/
def PointDef.Ok (d : PointDef) : Prop :=
  d.min ≤ d.safe ∧ d.safe ≤ d.max ∧
  match d.kind with
  | .discrete => d.min = 0 ∧ d.max = 1 ∧ d.tol = 0
  | .level => d.min < d.max ∧ d.max ≤ 4095 ∧ d.tol ≤ 255

/-- The point records fit their states, their banks and the mode, and every value lies in its point's range (R2, R3, R8 to R15, R104,
R136). -/
structure State.PointsOk (s : State) : Prop where
  definition : ∀ p d, (s.point p).defn = some d → d.Ok
  blank : ∀ p, (s.point p).defn = none → s.point p = PointRec.blank
  configure : s.mode = .configure → ∀ p d, (s.point p).defn = some d → s.point p = PointRec.inert d
  running : s.mode ≠ .configure → ∀ p, (s.point p).defined = true → (s.point p).target.isSome = true ∧
    (s.point p).state ≠ .undefined ∧ (s.point p).state ≠ .inert
  target : ∀ p d v, (s.point p).defn = some d → (s.point p).target = some v → d.min ≤ v ∧ v ≤ d.max
  applied : ∀ p d v, (s.point p).defn = some d → (s.point p).applied = some v → d.min ≤ v ∧ v ≤ d.max
  splits : ∀ p, (s.point p).splits ≤ Config.maxSplits
  safe : s.mode = .safe → ∀ p d, (s.point p).defn = some d → (s.point p).target = some d.safe
  settled : ∀ p, (s.point p).state = .settled → (s.point p).applied = (s.point p).target
  pending : ∀ p, (s.point p).state = .pending → (s.point p).applied ≠ (s.point p).target
  work : ∀ p, (s.point p).state = .pending → s.slotPending p = true ∨ (s.bank (bankOf p)).resync = true ∨
    (s.bank (bankOf p)).state = .warming ∨ (s.bank (bankOf p)).state = .switching
  members : ∀ p, s.slotPending p = true → (s.point p).state = .pending ∨ (s.point p).state = .loading
  off : ∀ p, (s.point p).state = .off ↔ (s.point p).defined = true ∧ (s.bank (bankOf p)).state = .disqualified
  offApplied : ∀ p, (s.point p).state = .off → (s.point p).applied = none
  loading : ∀ p, (s.point p).state = .loading ↔
    ∃ x, (s.bank (bankOf p)).exchange = some x ∧ (entryFor x.loaded (slotOf p)).isSome = true
  loaded : ∀ b x, (s.bank b).exchange = some x → ascending x.loaded = true ∧ (x.phase = .survey → x.loaded = []) ∧
    ∀ e ∈ x.loaded, ∃ d, (s.point (pointAt b e.slot)).defn = some d ∧ d.min ≤ e.value ∧ e.value ≤ d.max

/-- Every counter stays below the setting that limits it, and is 0 where its rule says so (R44, R48, R49, R51, R54, R55, R84, R102,
R103, R130). -/
structure State.CountsOk (s : State) : Prop where
  settings : ∀ n, (settingRange n).1 ≤ s.settings.get n ∧ s.settings.get n ≤ (settingRange n).2
  strikes : ∀ l, (s.lane l).strikes < s.settings.strikes ∧ (s.lane l).streak < s.settings.decay
  carried : ∀ l n, (s.lane l).carriedStrikes = some n → n < s.settings.strikes
  carriedStreak : ∀ l n, (s.lane l).carriedStreak = some n → n < s.settings.decay
  nonvoter : ∀ l, (s.role l).voting = false → (s.lane l).strikes = 0 ∧ (s.lane l).streak = 0
  probation : ∀ l, (s.lane l).probClean < s.settings.probation ∧ (s.lane l).probFails < s.settings.probfail
  outside : ∀ l, s.role l ≠ .probation → (s.lane l).probClean = 0 ∧ (s.lane l).probFails = 0
  suspensions : ∀ l, (s.lane l).suspensions ≤ 7 ∧ (s.role l ≠ .excluded → (s.lane l).suspensions < 7)
  links : ∀ b k, ((s.bank b).links.get k).strikes < s.settings.linkstrikes ∧
    ((s.bank b).links.get k).streak < s.settings.linkdecay

end Sys2Proof.Machine
end

