-- ==== Sys2Proof/Certificates/Slice0/Obligations.lean ====
section
/-! DEFINITION. The statements for the provers, one Prop each. A request is stated through the command whose line is taken at its own
LF (State.Listens, State.Expects); the equations give the whole next state, so they say what the command leaves unchanged. -/

open Sys2Proof Sys2Proof.Machine

/-! ## The machine -/

/-- A step takes the command at the front of the queue and executes it with the queue's rest. That the part idles on an empty queue
is the model's choice (log entry 1). -/
def Obligations.StepRunsFront : Prop :=
  (∀ (c : Instr) (rest : List Instr) (s : State), step { s with pending := c :: rest } = exec c { s with pending := rest }) ∧
  ∀ s : State, s.pending = [] → step s = .next s

/-- Every command answers a next state in every state; it leaves the queue alone, device time advances by the command's own time and
by nothing else (R186), and only the commands of a reset enter or leave one (R141). That device time passes with the commands is the
model's choice (log entry 2). -/
def Obligations.EveryCommandAnswers : Prop :=
  ∀ (c : Instr) (s : State), ∃ t : State, exec c s = .next t ∧ t.pending = s.pending ∧
    ∀ dt, elapsed c = some dt →
      t.inReset = s.inReset ∧ t.clock = if s.inReset = true then s.clock else s.clock.after dt

/-- A command of one lane's link leaves the other two Lane Ports as they are, and a command of no lane link leaves all three. -/
def Obligations.PortsIndependent : Prop :=
  ∀ (c : Instr) (s t : State) (l : Lane), exec c s = .next t → elapsed c ≠ none → linkLane c ≠ some l → t.port l = s.port l

/-- Outside CONFIGURE no command but a reset changes a setting, the digest or a definition (R2, R130, R132). -/
def Obligations.ConfigurationFixed : Prop :=
  ∀ (c : Instr) (s t : State), exec c s = .next t → elapsed c ≠ none → s.mode ≠ .configure →
    t.settings = s.settings ∧ t.digest = s.digest ∧ (∀ p, (t.point p).defn = (s.point p).defn) ∧
      ∀ b, (t.bank b).defn = (s.bank b).defn

/-- The mode changes by START, SAFE entry, RESUME and RESTART alone, and the newest record names the change (R123). -/
def Obligations.ModeChangesRecorded : Prop :=
  ∀ (c : Instr) (s t : State), exec c s = .next t → elapsed c ≠ none → t.mode ≠ s.mode →
    ∃ k, modeRecord s.mode t.mode = some k ∧ t.log.ring.getLast?.map (fun r => r.event.code) = some k

/-! ## Configuration -/

/-- An accepted POINT replaces the definition as a whole; the point is INERT, its bank re-evaluated and the digest recomputed (R6).
A POINT is refused for the first field from the left that has not its form, the field count checked last (R4), and one of a good
form for the first range check that fails (R5). That a POINT which ends before its kind is refused for its count is the model's
reading (log entry 9). -/
def Obligations.PointDefines : Prop :=
  (∀ (s : State) (dt : Nat) (l : Lane) (q : Byte) (p : PointNo) (mn mx tol safe : Nat) (tp tmn tmx ttol tsafe : Text),
    s.Configures l q → readNumber tp = some p.val → readNumber tmn = some mn → readNumber tmx = some mx →
    readNumber ttol = some tol → readNumber tsafe = some safe → mn < mx → mx ≤ 4095 → tol ≤ 255 → mn ≤ safe → safe ≤ mx →
    exec (.point dt l q [tp, asc "LEVEL", tmn, tmx, ttol, tsafe]) s =
      .next ((({ s.taking dt l q with
        points := s.points.set p
          { defn := some { kind := .level, min := mn, max := mx, tol, safe }, target := none, applied := none, state := .inert,
            splits := 0, changed := none } }).reconfigured (bankOf p)).answered l q
        (requestText q (verbText .point) [tp, asc "LEVEL", tmn, tmx, ttol, tsafe]) [asc "OK", dec p.val, asc "DEFINED"])) ∧
  (∀ (s : State) (dt : Nat) (l : Lane) (q : Byte) (p : PointNo) (safe : Nat) (tp tsafe : Text),
    s.Configures l q → readNumber tp = some p.val → readNumber tsafe = some safe → safe ≤ 1 →
    exec (.point dt l q [tp, asc "DISCRETE", tsafe]) s =
      .next ((({ s.taking dt l q with
        points := s.points.set p
          { defn := some { kind := .discrete, min := 0, max := 1, tol := 0, safe }, target := none, applied := none,
            state := .inert, splits := 0, changed := none } }).reconfigured (bankOf p)).answered l q
        (requestText q (verbText .point) [tp, asc "DISCRETE", tsafe]) [asc "OK", dec p.val, asc "DEFINED"])) ∧
  ∀ (s : State) (dt : Nat) (l : Lane) (q : Byte), s.Configures l q →
    let refused (fields why : List Text) := exec (.point dt l q fields) s =
      .next ((s.taking dt l q).answered l q (requestText q (verbText .point) fields) (asc "NO" :: why))
    refused [] [asc "FIELD", asc "POINT"] ∧
    (∀ tp rest, readNumber tp = none → refused (tp :: rest) [asc "FIELD", asc "POINT"]) ∧
    (∀ tp p, readNumber tp = some p → refused [tp] [asc "FIELD", asc "COUNT"]) ∧
    (∀ tp p kind rest, readNumber tp = some p → kind ≠ asc "LEVEL" → kind ≠ asc "DISCRETE" →
      refused (tp :: kind :: rest) [asc "FIELD", asc "KIND"]) ∧
    (∀ tp p kind names, readNumber tp = some p →
      (kind, names) ∈ [(asc "LEVEL", [asc "MIN", asc "MAX", asc "TOL", asc "SAFE"]), (asc "DISCRETE", [asc "SAFE"])] →
      (∀ good bad more name, (∀ x ∈ good, (readNumber x).isSome = true) → readNumber bad = none →
        names[good.length]? = some name → refused (tp :: kind :: (good ++ bad :: more)) [asc "FIELD", name]) ∧
      ∀ rest, (∀ x ∈ rest.take names.length, (readNumber x).isSome = true) → rest.length ≠ names.length →
        refused (tp :: kind :: rest) [asc "FIELD", asc "COUNT"]) ∧
    (∀ tp tmn tmx ttol tsafe p mn mx tol safe, readNumber tp = some p → readNumber tmn = some mn → readNumber tmx = some mx →
      readNumber ttol = some tol → readNumber tsafe = some safe →
      ¬(p ≤ 63 ∧ mn < mx ∧ mx ≤ 4095 ∧ tol ≤ 255 ∧ mn ≤ safe ∧ safe ≤ mx) →
      refused [tp, asc "LEVEL", tmn, tmx, ttol, tsafe] [asc "RANGE",
        if 63 < p then asc "POINT" else if 4095 < mn then asc "MIN" else if 4095 < mx ∨ mx ≤ mn then asc "MAX"
        else if 255 < tol then asc "TOL" else asc "SAFE"]) ∧
    ∀ tp tsafe p safe, readNumber tp = some p → readNumber tsafe = some safe → 63 < p ∨ 1 < safe →
      refused [tp, asc "DISCRETE", tsafe] [asc "RANGE", if 63 < p then asc "POINT" else asc "SAFE"]

/-- BANK defines a bank whose address no other defined bank holds, and is refused with NO CLASH and that bank otherwise (R87). It is
refused for the first field from the left that has not its form, the field count checked last (R86), and one of a good form for the
first range check that fails (R87). That a BANK which ends before its second field or before its link is refused for its count is
the model's reading (log entry 9). -/
def Obligations.BankDefines : Prop :=
  (∀ (s : State) (dt : Nat) (l : Lane) (q : Byte) (b : BankNo) (addr : Nat) (k : LinkNo) (tb ta tk : Text),
    s.Configures l q → readNumber tb = some b.val → readNumber ta = some addr → 1 ≤ addr → addr ≤ 31 →
    readNumber tk = some (match k with | .one => 1 | .two => 2) →
    ((∀ c d, c ≠ b → (s.bank c).defn = some d → d.address ≠ addr) →
      exec (.bank dt l q [tb, ta, tk]) s =
        .next ((({ s.taking dt l q with
            banks := s.banks.set b { s.bank b with
              defn := some { address := addr, primary := k }, activeLink := some k } }).reconfigured b).answered l q
          (requestText q (verbText .bank) [tb, ta, tk]) [asc "OK", dec b.val, asc "DEFINED"])) ∧
    ∀ c d, c ≠ b → (s.bank c).defn = some d → d.address = addr →
      (∀ e f, e ≠ b → (s.bank e).defn = some f → f.address = addr → e = c) →
      exec (.bank dt l q [tb, ta, tk]) s =
        .next ((s.taking dt l q).answered l q (requestText q (verbText .bank) [tb, ta, tk])
          [asc "NO", asc "CLASH", dec c.val])) ∧
  ∀ (s : State) (dt : Nat) (l : Lane) (q : Byte), s.Configures l q →
    let refused (fields why : List Text) := exec (.bank dt l q fields) s =
      .next ((s.taking dt l q).answered l q (requestText q (verbText .bank) fields) (asc "NO" :: why))
    refused [] [asc "FIELD", asc "BANK"] ∧
    (∀ tb rest, readNumber tb = none → refused (tb :: rest) [asc "FIELD", asc "BANK"]) ∧
    ∀ tb b, readNumber tb = some b →
      refused [tb] [asc "FIELD", asc "COUNT"] ∧
      (∀ f rest, refused (tb :: asc "NONE" :: f :: rest) [asc "FIELD", asc "COUNT"]) ∧
      (∀ ta rest, ta ≠ asc "NONE" → readNumber ta = none → refused (tb :: ta :: rest) [asc "FIELD", asc "ADDRESS"]) ∧
      ∀ ta addr, readNumber ta = some addr →
        refused [tb, ta] [asc "FIELD", asc "COUNT"] ∧
        (∀ tk rest, readNumber tk = none → refused (tb :: ta :: tk :: rest) [asc "FIELD", asc "LINK"]) ∧
        ∀ tk link, readNumber tk = some link →
          (∀ f rest, refused (tb :: ta :: tk :: f :: rest) [asc "FIELD", asc "COUNT"]) ∧
          (7 < b ∨ addr < 1 ∨ 31 < addr ∨ link ≠ 1 ∧ link ≠ 2 →
            refused [tb, ta, tk] [asc "RANGE",
              if 7 < b then asc "BANK" else if addr < 1 ∨ 31 < addr then asc "ADDRESS" else asc "LINK"])

/-- DROP of a defined point makes it UNDEFINED, re-evaluates its bank and recomputes the digest; it is refused for an UNDEFINED
point and for a number above 63 (R7). A DROP with any other number of fields than one is refused for its count, and one whose field
is no number under POINT (R7). The line BANK b NONE removes a defined bank's definition, makes it UNUSED with its enable low and
recomputes the digest; it is refused for a bank that is not defined and for a number above 7 (R88), and under BANK where b is no
number (R86). That an UNDEFINED point's split count, which it has not, stands at 0 is the model's choice (log entry 14); that the
bank keeps its active link (log entry 13) and that the count goes before the field where both are wrong (log entry 9) are its
readings. -/
def Obligations.DefinitionsRemoved : Prop :=
  (∀ (s : State) (dt : Nat) (l : Lane) (q : Byte) (tp : Text), s.Configures l q →
    (∀ p : PointNo, readNumber tp = some p.val →
      exec (.drop dt l q [tp]) s = .next (
        if (s.point p).defn.isSome then
          (({ s.taking dt l q with
            points := s.points.set p
              { defn := none, target := none, applied := none, state := .undefined, splits := 0, changed := none }
            }).reconfigured (bankOf p)).answered l q (requestText q (verbText .drop) [tp]) [asc "OK", dec p.val, asc "DROPPED"]
        else (s.taking dt l q).answered l q (requestText q (verbText .drop) [tp]) [asc "NO", asc "UNDEFINED", dec p.val])) ∧
    ∀ n, readNumber tp = some n → 63 < n →
      exec (.drop dt l q [tp]) s = .next ((s.taking dt l q).answered l q (requestText q (verbText .drop) [tp])
        [asc "NO", asc "RANGE", asc "POINT"])) ∧
  (∀ (s : State) (dt : Nat) (l : Lane) (q : Byte), s.Configures l q →
    RefusesForm (fun fields why => exec (.drop dt l q fields) s =
      .next ((s.taking dt l q).answered l q (requestText q (verbText .drop) fields) (asc "NO" :: why)))
      "COUNT" "POINT" fun t => readNumber t = none) ∧
  ∀ (s : State) (dt : Nat) (l : Lane) (q : Byte) (tb : Text), s.Configures l q →
    (∀ b : BankNo, readNumber tb = some b.val →
      exec (.bankRemoval dt l q tb) s = .next (
        if (s.bank b).defn.isSome then
          (({ s.taking dt l q with banks := s.banks.set b { s.bank b with defn := none } }).reconfigured b).answered l q
            (requestText q (verbText .bank) [tb, asc "NONE"]) [asc "OK", dec b.val, asc "REMOVED"]
        else (s.taking dt l q).answered l q (requestText q (verbText .bank) [tb, asc "NONE"])
          [asc "NO", asc "UNDEFINED", dec b.val])) ∧
    (∀ n, readNumber tb = some n → 7 < n →
      exec (.bankRemoval dt l q tb) s = .next ((s.taking dt l q).answered l q
        (requestText q (verbText .bank) [tb, asc "NONE"]) [asc "NO", asc "RANGE", asc "BANK"])) ∧
    (readNumber tb = none →
      exec (.bankRemoval dt l q tb) s = .next ((s.taking dt l q).answered l q
        (requestText q (verbText .bank) [tb, asc "NONE"]) [asc "NO", asc "FIELD", asc "BANK"]))

/-- OPEN takes the session and starts the idle timer, whatever its sequence number; its refusals come in the order of R126. -/
def Obligations.OpenTakesSession : Prop :=
  ∀ (s : State) (dt : Nat) (l : Lane) (q : Byte) (fields : List Text), s.Listens l → s.role l ≠ .excluded →
    let line := requestText q (verbText .openSession) fields
    let refused (why : List Text) := exec (.openSession dt l q fields) s =
      .next ((s.taking dt l q).answered l q line (asc "NO" :: why))
    (fields ≠ [] → refused [asc "FIELD", asc "COUNT"]) ∧
    (fields = [] → s.mode ≠ .configure → refused [asc "MODE"]) ∧
    (fields = [] → s.mode = .configure → (s.lane l).power ≠ .high → refused [asc "POWER", powerText (s.lane l).power]) ∧
    (∀ h, fields = [] → s.mode = .configure → (s.lane l).power = .high → s.session = some h → h ≠ l →
      refused [asc "SESSION", laneText h]) ∧
    (fields = [] → s.mode = .configure → (s.lane l).power = .high → s.session = none ∨ s.session = some l →
      exec (.openSession dt l q fields) s =
        .next (({ s.taking dt l q with session := some l, idle := some ((s.advance dt).expiry s.settings.session) }).answered
          l q line [asc "OK", asc "SESSION", laneText l]))

/-- CLOSE gives the session up and stops the idle timer; its refusals come in the order count, mode, session (R127). That the count
goes before the mode is the model's reading (log entry 9). -/
def Obligations.CloseReleasesSession : Prop :=
  ∀ (s : State) (dt : Nat) (l : Lane) (q : Byte) (fields : List Text), s.Expects l q → s.role l ≠ .excluded →
    let line := requestText q (verbText .closeSession) fields
    let refused (why : List Text) := exec (.closeSession dt l q fields) s =
      .next ((s.taking dt l q).answered l q line (asc "NO" :: why))
    (fields ≠ [] → refused [asc "FIELD", asc "COUNT"]) ∧
    (fields = [] → s.mode ≠ .configure → refused [asc "MODE"]) ∧
    (fields = [] → s.mode = .configure → s.session = none → refused [asc "SESSION", asc "NONE"]) ∧
    (∀ h, fields = [] → s.mode = .configure → s.session = some h → h ≠ l → refused [asc "SESSION", laneText h]) ∧
    (fields = [] → s.mode = .configure → s.session = some l →
      exec (.closeSession dt l q fields) s =
        .next (({ s.taking dt l q with session := none, idle := none }).answered l q line [asc "OK", asc "RELEASED"]))

/-- SET gives a setting a value within its range and recomputes the digest; every other setting keeps its value. A value outside the
range is refused with the setting's name (R130, R131). A SET is refused for the first field from the left that has not its form, the
field count checked last (R131); that a name alone is refused for its count is the model's reading (log entry 9). -/
def Obligations.SetChanges : Prop :=
  (∀ (s : State) (dt : Nat) (l : Lane) (q : Byte) (n : SettingName) (v : Nat) (tv : Text),
    s.Configures l q → readNumber tv = some v →
    ((settingRange n).1 ≤ v → v ≤ (settingRange n).2 →
      ∃ g : Settings, g.get n = v ∧ (∀ m, m ≠ n → g.get m = s.settings.get m) ∧
        exec (.setSetting dt l q [settingText n, tv]) s =
          .next (({ s.taking dt l q with settings := g, digest := crc32 (configBytes s.points s.banks g) }).answered l q
            (requestText q (verbText .setSetting) [settingText n, tv]) [asc "OK", settingText n, dec v])) ∧
    (v < (settingRange n).1 ∨ (settingRange n).2 < v →
      exec (.setSetting dt l q [settingText n, tv]) s =
        .next ((s.taking dt l q).answered l q (requestText q (verbText .setSetting) [settingText n, tv])
          [asc "NO", asc "RANGE", settingText n]))) ∧
  ∀ (s : State) (dt : Nat) (l : Lane) (q : Byte), s.Configures l q →
    let refused (fields : List Text) (why : String) := exec (.setSetting dt l q fields) s =
      .next ((s.taking dt l q).answered l q (requestText q (verbText .setSetting) fields) [asc "NO", asc "FIELD", asc why])
    refused [] "NAME" ∧
    (∀ tn rest, (∀ n, tn ≠ settingText n) → refused (tn :: rest) "NAME") ∧
    ∀ n, refused [settingText n] "COUNT" ∧
      (∀ tv rest, readNumber tv = none → refused (settingText n :: tv :: rest) "VALUE") ∧
      ∀ tv v f rest, readNumber tv = some v → refused (settingText n :: tv :: f :: rest) "COUNT"

/-- POINT, DROP, BANK in both its forms, SET and START, whatever their fields, are refused with NO MODE outside CONFIGURE and with
NO SESSION for a lane that does not hold the session (R125). -/
def Obligations.ConfigurationRefused : Prop :=
  ∀ (s : State) (dt : Nat) (l : Lane) (q : Byte) (c : Instr) (v : Verb) (fields : List Text),
    v ∈ [Verb.point, .drop, .bank, .setSetting, .start] → IsRequest c v dt l q fields → s.Expects l q → s.role l ≠ .excluded →
    (s.mode ≠ .configure →
      exec c s = .next ((s.taking dt l q).answered l q (requestText q (verbText v) fields) [asc "NO", asc "MODE"])) ∧
    (s.mode = .configure → s.session ≠ some l →
      exec c s = .next ((s.taking dt l q).answered l q (requestText q (verbText v) fields)
        [asc "NO", asc "SESSION", match s.session with | none => asc "NONE" | some h => laneText h]))

/-- START with the digest of the part, from a lane whose power is HIGH, with some point defined and every bank of a defined point
defined: RUN, the requester IN_CONTROL, round 1, every defined point PENDING at its safe value, every bank in use WARMING on its
primary link, and the STARTED record (R8, R67, R91, R134). Past the checks of R125 its refusals come in the order form, power,
digest, points, banks (R133). That a START with several fields is refused for its count whatever the first is, R133 states. -/
def Obligations.StartRuns : Prop :=
  (∀ (s : State) (dt : Nat) (l : Lane) (q : Byte) (td : Text),
    s.Configures l q → readDigest td = some s.digest → (s.lane l).power = .high → (∃ p, (s.point p).defn.isSome = true) →
    (∀ p, (s.point p).defn.isSome = true → (s.bank (bankOf p)).defn.isSome = true) →
    exec (.start dt l q [td]) s =
      .next ((({ s.taking dt l q with
          mode := .run, session := none, idle := none, round := 1, collecting := some Collecting.empty, summary := none
          lanes := s.lanes.set l { s.lane l with
            role := .inControl, strikes := 0, streak := 0, probClean := 0, probFails := 0, suspendedUntil := none
            quiet := some ((s.advance dt).expiry s.settings.quiet) }
          points := Vector.ofFn fun p => match (s.point p).defn with
            | none => s.point p
            | some d => { defn := some d, target := some d.safe, applied := none, state := .pending, splits := 0,
                          changed := none }
          banks := Vector.ofFn fun b => if s.Serves b then
              { defn := (s.bank b).defn, state := .warming, activeLink := (s.bank b).defn.map BankDef.primary
                links := ⟨⟨.good, 0, 0⟩, ⟨.good, 0, 0⟩⟩, tag := 0#8, pendingSet := Vector.replicate 8 false, resync := false
                settle := some ((s.advance dt).expiry s.settings.settle), surveyDue := none
                exchange := (s.bank b).exchange, enable := true }
            else s.bank b }).append
          { code := .started, lane := some l, round := some 1,
            values := [((List.finRange 64).filter fun p => (s.point p).defn.isSome).length,
                       ((List.finRange 8).filter fun b => decide (s.Serves b)).length] }).answered l q
        (requestText q (verbText .start) [td]) [asc "OK", asc "STARTED", asc "1"])) ∧
  ∀ (s : State) (dt : Nat) (l : Lane) (q : Byte), s.Configures l q →
    let refused (fields why : List Text) := exec (.start dt l q fields) s =
      .next ((s.taking dt l q).answered l q (requestText q (verbText .start) fields) (asc "NO" :: why))
    RefusesForm refused "DIGEST" "DIGEST" (fun t => readDigest t = none) ∧
    ∀ td d, readDigest td = some d →
      ((s.lane l).power ≠ .high → refused [td] [asc "POWER", powerText (s.lane l).power]) ∧
      ((s.lane l).power = .high → d ≠ s.digest → refused [td] [asc "DIGEST"]) ∧
      ((s.lane l).power = .high → d = s.digest → (∀ p, (s.point p).defn = none) → refused [td] [asc "RANGE", asc "POINT"]) ∧
      ∀ b : BankNo, (s.lane l).power = .high → d = s.digest → (s.bank b).defn = none →
        (∃ i, (s.point (pointAt b i)).defn.isSome = true) →
        (∀ e i, e < b → (s.point (pointAt e i)).defn.isSome = true → (s.bank e).defn.isSome = true) →
        refused [td] [asc "UNDEFINED", dec b.val]

/-- RESUME in SAFE from an ABSENT or SUSPENDED lane past its wait, with power HIGH and the part's digest: RUN, the requester
IN_CONTROL, an empty collecting round with the number held, and the RESUMED record; points and banks are untouched (R43, R67, R138).
Its refusals come in the order form, mode, role, wait, power, digest (R137). That suspended-until is reached when the interval to
now lies in the lower half of the 32-bit range is the model's inference (log entry 6), and so is the count before the field where
both are wrong (log entry 9). -/
def Obligations.ResumeRuns : Prop :=
  ∀ (s : State) (dt : Nat) (l : Lane) (q : Byte), s.Listens l → s.role l ≠ .excluded →
    let refused (fields why : List Text) := exec (.resume dt l q fields) s =
      .next ((s.taking dt l q).answered l q (requestText q (verbText .resume) fields) (asc "NO" :: why))
    let mayEnter := s.role l = .absent ∨ s.role l = .suspended
    (∀ td, s.mode = .safe → mayEnter → (s.advance dt).MayEnter l → (s.lane l).power = .high →
      readDigest td = some s.digest →
      exec (.resume dt l q [td]) s =
        .next ((({ s.taking dt l q with
            mode := .run, collecting := some Collecting.empty
            lanes := s.lanes.set l { s.lane l with
              role := .inControl, strikes := 0, streak := 0, probClean := 0, probFails := 0, suspendedUntil := none
              quiet := some ((s.advance dt).expiry s.settings.quiet) } }).append
            { code := .resumed, lane := some l, round := some s.round }).answered l q
          (requestText q (verbText .resume) [td]) [asc "OK", asc "RESUMED", dec s.round])) ∧
    RefusesForm refused "DIGEST" "DIGEST" (fun t => readDigest t = none) ∧
    ∀ td d, readDigest td = some d →
      (s.mode ≠ .safe → refused [td] [asc "MODE"]) ∧
      (s.mode = .safe → ¬ mayEnter → refused [td] [asc "ROLE", roleText (s.role l)]) ∧
      (∀ u, s.mode = .safe → mayEnter → (s.lane l).suspendedUntil = some u → ¬ Due (s.advance dt).now u →
        refused [td] [asc "WAIT", dec (u - (s.advance dt).now).toNat]) ∧
      (s.mode = .safe → mayEnter → (s.advance dt).MayEnter l → (s.lane l).power ≠ .high →
        refused [td] [asc "POWER", powerText (s.lane l).power]) ∧
      (s.mode = .safe → mayEnter → (s.advance dt).MayEnter l → (s.lane l).power = .high → d ≠ s.digest →
        refused [td] [asc "DIGEST"])

/-- RESTART from the lane IN_CONTROL in RUN, or in SAFE from a lane that is not EXCLUDED and has power HIGH: exchanges dropped,
every bank, lane and point at its restart values, the requester holding the session, and the RESTARTED record. In CONFIGURE it is
refused (R16, R68, R106, R139, R140). A RESTART with fields is refused for its count. A bank without a definition keeps its active
link: the model's reading (log entry 13). A link goes on discarding a frame whose bytes were arriving at an expiry: the model's
reading (log entry 11). The settle deadline that a link remembers, which the restart clears, is the model's own memory (log entry
7). -/
def Obligations.RestartConfigures : Prop :=
  ∀ (s : State) (dt : Nat) (l : Lane) (q : Byte), s.Expects l q → s.role l ≠ .excluded →
    (s.mode = .run ∧ s.role l = .inControl ∨ s.mode = .safe ∧ (s.lane l).power = .high →
      exec (.restart dt l q []) s =
        .next ((({ s.taking dt l q with
            mode := .configure, collecting := none, round := 0, summary := none, session := some l
            idle := some ((s.advance dt).expiry s.settings.session)
            lanes := PerLane.ofFn fun m => { s.lane m with
              role := if s.role m = Role.excluded then Role.excluded else Role.absent
              strikes := 0, streak := 0, probClean := 0, probFails := 0, quiet := none, holdDeadline := none
              roleBefore := none, carriedStrikes := none, carriedStreak := none }
            points := Vector.ofFn fun p => { s.point p with
              target := none, applied := none, splits := 0, changed := none
              state := if (s.point p).defn.isSome then .inert else .undefined }
            banks := Vector.ofFn fun b =>
              { defn := (s.bank b).defn, state := if s.Serves b then .down else .unused
                activeLink := match (s.bank b).defn with | some d => some d.primary | none => (s.bank b).activeLink
                links := ⟨⟨.good, 0, 0⟩, ⟨.good, 0, 0⟩⟩, tag := 0#8, pendingSet := Vector.replicate 8 false, resync := false
                settle := none, surveyDue := none, exchange := none, enable := false }
            links := PerLink.ofFn fun k => { s.link k with pointer := 7, transaction := none, settledAt := none } }).append
            { code := .restarted, lane := some l, round := some s.round, cause := some (.mode s.mode) }).answered l q
          (requestText q (verbText .restart) []) [asc "OK", asc "RESTARTED"])) ∧
    (∀ f fs, exec (.restart dt l q (f :: fs)) s =
      .next ((s.taking dt l q).answered l q (requestText q (verbText .restart) (f :: fs))
        [asc "NO", asc "FIELD", asc "COUNT"])) ∧
    (s.mode = .configure →
      exec (.restart dt l q []) s =
        .next ((s.taking dt l q).answered l q (requestText q (verbText .restart) []) [asc "NO", asc "MODE"])) ∧
    (s.mode = .run → s.role l ≠ .inControl →
      exec (.restart dt l q []) s =
        .next ((s.taking dt l q).answered l q (requestText q (verbText .restart) [])
          [asc "NO", asc "ROLE", roleText (s.role l)])) ∧
    (s.mode = .safe → (s.lane l).power ≠ .high →
      exec (.restart dt l q []) s =
        .next ((s.taking dt l q).answered l q (requestText q (verbText .restart) [])
          [asc "NO", asc "POWER", powerText (s.lane l).power]))

/-! ## Vote rounds -/

/-- An accepted STAGE stores its pairs from left to right into the requester's slots, so that the last pair of each point stands,
and changes nothing else of the round (R20, R23). -/
def Obligations.StageStores : Prop :=
  ∀ (s : State) (dt : Nat) (l : Lane) (q : Byte) (c : Collecting) (tr : Text) (tps : List Text) (ps : List (Nat × Nat)),
    s.Expects l q → s.mode = .run → s.collecting = some c → (s.role l).seated = true → c.sealed.get l = false →
    readNumber tr = some s.round → readPairs tps = some ps → 1 ≤ ps.length → ps.length ≤ 12 →
    (∀ x ∈ ps, ∃ p : PointNo, ∃ d, x.1 = p.val ∧ (s.point p).defn = some d ∧ d.min ≤ x.2 ∧ x.2 ≤ d.max) →
    ∃ c' : Collecting, c'.sealed = c.sealed ∧ c'.timer = c.timer ∧
      (∀ m p, c'.slot m p =
        if m = l then ((ps.reverse.find? fun x => x.1 = p.val).map Prod.snd).or (c.slot l p) else c.slot m p) ∧
      exec (.stage dt l q (tr :: tps)) s =
        .next (({ s.taking dt l q with collecting := some c' }).answered l q (requestText q (verbText .stage) (tr :: tps))
          [asc "OK", asc "STAGED", dec s.round, dec ps.length])

/-- STAGE and SEAL are refused for their form, a STAGE field by field from left to right and its pair count last (R21, R24); those
of a good form in the order mode, role, round, seal set; and a STAGE then for the first pair with a number above 63, the first whose
point is not defined, and the first whose value is out of range, each looked for in all pairs before the next. Nothing of the round
changes (R22). That a check is looked for in all pairs before the next check is the model's reading (log entry 12), and so is that a
SEAL with several fields is refused for its count whatever the first is (log entry 9). -/
def Obligations.RoundRequestsRefused : Prop :=
  ∀ (s : State) (dt : Nat) (l : Lane) (q : Byte), s.Expects l q → s.role l ≠ .excluded →
    let stage (fields why : List Text) := exec (.stage dt l q fields) s =
      .next ((s.taking dt l q).answered l q (requestText q (verbText .stage) fields) (asc "NO" :: why))
    let sealing (fields why : List Text) := exec (.seal dt l q fields) s =
      .next ((s.taking dt l q).answered l q (requestText q (verbText .seal) fields) (asc "NO" :: why))
    RefusesForm sealing "ROUND" "ROUND" (fun t => readNumber t = none) ∧
    stage [] [asc "FIELD", asc "ROUND"] ∧
    (∀ t rest, readNumber t = none → stage (t :: rest) [asc "FIELD", asc "ROUND"]) ∧
    (∀ t n good bad more, readNumber t = some n → (∀ x ∈ good, (readPair x).isSome = true) → readPair bad = none →
      stage (t :: (good ++ bad :: more)) [asc "FIELD", asc "PAIR"]) ∧
    (∀ t n tps ps, readNumber t = some n → readPairs tps = some ps → ps.length = 0 ∨ 12 < ps.length →
      stage (t :: tps) [asc "FIELD", asc "COUNT"]) ∧
    ∀ (n : Nat) (tr : Text) (tps : List Text) (ps : List (Nat × Nat)), readNumber tr = some n → readPairs tps = some ps →
      1 ≤ ps.length → ps.length ≤ 12 →
      let both (why : List Text) := stage (tr :: tps) why ∧ sealing [tr] why
      (s.mode ≠ .run → both [asc "MODE"]) ∧
      ∀ c, s.mode = .run → s.collecting = some c →
        ((s.role l).seated = false → both [asc "ROLE", roleText (s.role l)]) ∧
        ((s.role l).seated = true → n ≠ s.round → both [asc "ROUND", dec s.round]) ∧
        ((s.role l).seated = true → n = s.round → c.sealed.get l = true → both [asc "SEALED"]) ∧
        ∀ before m v after, (s.role l).seated = true → n = s.round → c.sealed.get l = false →
          ps = before ++ (m, v) :: after →
          ((∀ x ∈ before, x.1 ≤ 63) → 63 < m → stage (tr :: tps) [asc "RANGE", dec m]) ∧
          ((∀ x ∈ ps, x.1 ≤ 63) → (∀ x ∈ before, ∃ p : PointNo, x.1 = p.val ∧ (s.point p).defn.isSome = true) →
            (∀ p : PointNo, m = p.val → (s.point p).defn = none) → stage (tr :: tps) [asc "UNDEFINED", dec m]) ∧
          ((∀ x ∈ ps, ∃ p : PointNo, x.1 = p.val ∧ (s.point p).defn.isSome = true) →
            (∀ x ∈ before, ∃ p : PointNo, ∃ d, x.1 = p.val ∧ (s.point p).defn = some d ∧ d.min ≤ x.2 ∧ x.2 ≤ d.max) →
            (∃ p : PointNo, ∃ d, m = p.val ∧ (s.point p).defn = some d ∧ (v < d.min ∨ d.max < v)) →
            stage (tr :: tps) [asc "RANGE", dec m])

/-- An accepted SEAL that does not make the round ready: the lane joins the seal set and a stopped timer starts with ROUNDTIME (R25,
R26). -/
def Obligations.SealJoins : Prop :=
  ∀ (s : State) (dt : Nat) (l : Lane) (q : Byte) (c : Collecting) (tr : Text),
    s.Expects l q → s.mode = .run → s.collecting = some c → (s.role l).seated = true → c.sealed.get l = false →
    readNumber tr = some s.round → (s.StillOpen c l ∨ ∀ m, (s.role m).voting = false) →
    exec (.seal dt l q [tr]) s =
      .next (({ s.taking dt l q with
          collecting := some
            { slots := c.slots, sealed := c.sealed.set l true,
              timer := some (c.timer.getD ((s.advance dt).expiry s.settings.roundtime)) } }).answered l q
        (requestText q (verbText .seal) [tr]) [asc "OK", asc "SEALED", dec s.round])

/-- The SEAL of the last voter closes the round at its own event with cause SEALED (R25, R31, R35 to R41). That a SPLIT moves the
target follows R33 against R10: the model's choice (log entry 18). When a link controller's choice is held back is the model's
reading (log entry 7). -/
def Obligations.SealCloses : Prop :=
  ∀ (s : State) (dt : Nat) (l : Lane) (q : Byte) (c : Collecting) (tr : Text),
    s.Expects l q → s.mode = .run → s.collecting = some c → (s.role l).voting = true → c.sealed.get l = false →
    readNumber tr = some s.round → (∀ m, m ≠ l → (s.role m).voting = true → c.sealed.get m = true) →
    ∃ t : State, exec (.seal dt l q [tr]) s =
        .next (t.answered l q (requestText q (verbText .seal) [tr]) [asc "OK", asc "CLOSED", dec s.round, asc "SEALED"]) ∧
      Closed (s.taking dt l q) { c with sealed := c.sealed.set l true } .sealed t

/-- The expiry of a running round timer that device time has reached closes the round with cause TIMER, whatever the seal set holds
(R29, R172). That device time alone passes where no timer runs or its expiry is not reached, and how "reached" is read, are the
model's choices (log entries 3 and 6). That a SPLIT moves the target follows R33 against R10: the model's choice (log entry 18).
When a link controller's choice is held back is the model's reading (log entry 7). -/
def Obligations.RoundTimerCloses : Prop :=
  ∀ (s : State) (dt : Nat), s.inReset = false →
    (∀ c d, s.mode = .run → s.collecting = some c → c.timer = some d → DueAt (s.advance dt).clock d →
      ∃ t : State, exec (.roundTimerExpiry dt) s = .next t ∧ Closed (s.advance dt) c .timer t) ∧
    ((∀ c d, s.collecting = some c → c.timer = some d → ¬ DueAt (s.advance dt).clock d) →
      exec (.roundTimerExpiry dt) s = .next (s.advance dt))

/-- A voter's departure that leaves other voters, all of them sealed, closes the round with cause DEPARTURE, the departed lane
neither voter nor late: by LEAVE, by quiet expiry, and by a confirmed power loss to HELD or, where the flap check fails, to
EXCLUDED. Where the lane held control, the first STANDBY lane takes it first, with its CONTROL record, and is the reference of a
vote of two (R27, R28, R63, R64, R74). How a quiet expiry or the end of a confirm delay is "reached" is the model's reading (log
entry 6). That a SPLIT moves the target follows R33 against R10: the model's choice (log entry 18). When a link controller's choice
is held back is the model's reading (log entry 7). -/
def Obligations.DepartureCloses : Prop :=
  ∀ (s : State) (dt : Nat) (l : Lane) (c : Collecting), s.inReset = false → s.mode = .run → s.collecting = some c →
    (s.role l).voting = true → (∃ m, m ≠ l ∧ (s.role m).voting = true) →
    (∀ m, m ≠ l → (s.role m).voting = true → c.sealed.get m = true) →
    let closes (x t : State) := Closed (x.departing c l) (c.without l) .departure t ∧
      ∀ n, (∀ m, m ≠ l → s.role m ≠ .inControl) → s.role n = .standby → n ≠ l →
        (∀ m, m ≠ l → s.role m = .standby → m = n ∨ (n, m) ∈ [(Lane.a, Lane.b), (.a, .c), (.b, .c)]) →
        (x.departing c l).control = some n ∧
          (x.departing c l).log = (x.append
            { code := .control, lane := some n, round := some s.round, cause := some .assign }).log
    (∀ q, s.Expects l q →
      ∃ t : State, exec (.leave dt l q []) s =
          .next (t.answered l q (requestText q (verbText .leave) []) [asc "OK", asc "LEFT"]) ∧
        closes ((s.taking dt l q).leaving l (s.lane l)) t) ∧
    (∀ d, (s.lane l).quiet = some d → DueAt (s.advance dt).clock d →
      ∃ t : State, exec (.quietTimerExpiry dt l) s = .next t ∧ closes ((s.advance dt).silenced l) t) ∧
    ∀ e, (s.lane l).power = .confirming → (s.lane l).confirm = some e → DueAt (s.clock.after dt) e →
      ∃ t : State, exec (.confirmTimerExpiry dt l) s = .next t ∧
        ((s.advance dt).Steady l →
          closes ((s.advance dt).lost l ((s.lane l).holding ((s.advance dt).expiry s.settings.hold))
            (.role (s.role l))) t) ∧
        (¬ (s.advance dt).Steady l → closes ((s.advance dt).flapped l) t)

/-- The vote on one point. Three voters: the median m; a voter beyond tolerance of m dissents; none AGREE, one MAJORITY and that
lane marked, two NOMAJORITY with the target unchanged (R32). Two voters: the opinion of the lane IN_CONTROL if it is one of them,
else of the first in the order A, B, C; PAIR within tolerance, SPLIT beyond, and the reference opinion the target of either (R33).
One voter: SOLE; none: EMPTY (R34). A result without a value leaves target, state and pending slot as they are; one with a value
moves them as its target write does (R9, given case by case in TargetWrite), a new target sets the last change round, and the split
count rises on NOMAJORITY and SPLIT alone (R10, R35). That a SPLIT moves the target follows R33 against R10: the model's choice (log
entry 18). -/
def Obligations.VoteOnAPoint : Prop :=
  (∀ (tol : Nat) (control : Option Lane) (x y z : Nat), ∃ m : Nat,
    (m = x ∨ m = y ∨ m = z) ∧ [x, y, z].countP (· < m) ≤ 1 ∧ [x, y, z].countP (m < ·) ≤ 1 ∧
    let outside := [(Lane.a, x), (Lane.b, y), (Lane.c, z)].filter fun o => tol < max (o.2 - m) (m - o.2)
    let v := votePoint tol control [(.a, x), (.b, y), (.c, z)]
    outside.length ≤ 2 ∧
    (outside = [] → v = { outcome := .agree, target := some m, dissenter := none }) ∧
    (∀ l w, outside = [(l, w)] → v = { outcome := .majority, target := some m, dissenter := some l }) ∧
    (outside.length = 2 → v = { outcome := .nomajority, target := none, dissenter := none })) ∧
  (∀ (tol : Nat) (control : Option Lane) (l m : Lane) (x y : Nat), (l, m) ∈ [(Lane.a, Lane.b), (.a, .c), (.b, .c)] →
    votePoint tol control [(l, x), (m, y)] =
      { outcome := if max (x - y) (y - x) ≤ tol then .pair else .split
        target := some (if control = some m then y else x), dissenter := none }) ∧
  (∀ (tol : Nat) (control : Option Lane) (l : Lane) (x : Nat),
    votePoint tol control [(l, x)] = { outcome := .sole, target := some x, dissenter := none }) ∧
  (∀ (tol : Nat) (control : Option Lane),
    votePoint tol control [] = { outcome := .empty, target := none, dissenter := none }) ∧
  ∀ (round : Nat) (v : PointVote) (r : PointRec) (member : Bool),
    let split := v.outcome = .nomajority ∨ v.outcome = .split
    (v.target = none →
      takeResult round v r member = ({ r with splits := if split then min (r.splits + 1) 65535 else r.splits }, member)) ∧
    ∀ x, v.target = some x →
      let w := writeTarget x r member
      takeResult round v r member =
        ({ w.1 with
           changed := if r.target = some x then r.changed else some round
           splits := if split then min (r.splits + 1) 65535 else r.splits }, w.2) ∧
      (r.state ≠ .inert → r.state ≠ .undefined → (takeResult round v r member).1.target = some x)

/-- A target write: a value equal to the current target changes nothing; a changed target is stored, and state and pending set move
as the table of R9 states. -/
def Obligations.TargetWrite : Prop :=
  ∀ (v : Nat) (r : PointRec) (member : Bool),
    (r.target = some v → writeTarget v r member = (r, member)) ∧
    (r.target ≠ some v →
      (r.state = .settled → writeTarget v r member = ({ r with target := some v, state := .pending }, true)) ∧
      (r.state = .pending → r.applied ≠ some v → writeTarget v r member = ({ r with target := some v }, true)) ∧
      (r.state = .pending → r.applied = some v →
        writeTarget v r member = ({ r with target := some v, state := .settled }, false)) ∧
      (r.state = .loading → writeTarget v r member = ({ r with target := some v }, true)) ∧
      (r.state = .off → writeTarget v r member = ({ r with target := some v }, member)))

/-! ## Lanes -/

/-- JOIN in RUN from an ABSENT or SUSPENDED lane past its wait, with power HIGH and the part's digest: PROBATION with every counter
0 but the suspension count, the quiet timer started, and the JOINED record; the round is untouched (R47). Its refusals come in the
order form, mode, role, wait, power, digest (R46). That suspended-until is reached when the interval to now lies in the lower half
of the 32-bit range is the model's inference (log entry 6), and so is the count before the field where both are wrong (log entry 9).
-/
def Obligations.JoinEnters : Prop :=
  ∀ (s : State) (dt : Nat) (l : Lane) (q : Byte), s.Listens l → s.role l ≠ .excluded →
    let refused (fields why : List Text) := exec (.join dt l q fields) s =
      .next ((s.taking dt l q).answered l q (requestText q (verbText .join) fields) (asc "NO" :: why))
    let mayEnter := s.role l = .absent ∨ s.role l = .suspended
    (∀ td, s.mode = .run → mayEnter → (s.advance dt).MayEnter l → (s.lane l).power = .high →
      readDigest td = some s.digest →
      exec (.join dt l q [td]) s =
        .next ((({ s.taking dt l q with
            lanes := s.lanes.set l { s.lane l with
              role := .probation, probClean := 0, probFails := 0, strikes := 0, streak := 0, suspendedUntil := none,
              quiet := some ((s.advance dt).expiry s.settings.quiet) } }).append
            { code := .joined, lane := some l, round := some s.round, values := [(s.lane l).suspensions] }).answered l q
          (requestText q (verbText .join) [td]) [asc "OK", asc "JOINED", dec s.round])) ∧
    RefusesForm refused "DIGEST" "DIGEST" (fun t => readDigest t = none) ∧
    ∀ td d, readDigest td = some d →
      (s.mode ≠ .run → refused [td] [asc "MODE"]) ∧
      (s.mode = .run → ¬ mayEnter → refused [td] [asc "ROLE", roleText (s.role l)]) ∧
      (∀ u, s.mode = .run → mayEnter → (s.lane l).suspendedUntil = some u → ¬ Due (s.advance dt).now u →
        refused [td] [asc "WAIT", dec (u - (s.advance dt).now).toNat]) ∧
      (s.mode = .run → mayEnter → (s.advance dt).MayEnter l → (s.lane l).power ≠ .high →
        refused [td] [asc "POWER", powerText (s.lane l).power]) ∧
      (s.mode = .run → mayEnter → (s.advance dt).MayEnter l → (s.lane l).power = .high → d ≠ s.digest →
        refused [td] [asc "DIGEST"])

/-- LEAVE: a PROBATION lane goes to ABSENT and its contribution is withdrawn. A voter's LEAVE is a departure: its contribution is
withdrawn, a vacant control passes with a CONTROL record, and the round stays open, closes, or gives way to SAFE. Any other role is
refused in every mode, and a LEAVE with fields for its count (R27, R28, R60, R63, R64, R66). That the count goes before the role is
the model's reading (log entry 9). Where the departure closes the round, that a SPLIT moves the target follows R33 against R10: the
model's choice (log entry 18). When a link controller's choice is held back is the model's reading (log entry 7). -/
def Obligations.LeaveLeaves : Prop :=
  ∀ (s : State) (dt : Nat) (l : Lane) (q : Byte), s.Expects l q →
    let line := requestText q (verbText .leave) []
    let left := (s.taking dt l q).leaving l (s.lane l)
    (∀ c, s.collecting = some c → s.role l = .probation →
      exec (.leave dt l q []) s =
        .next (({ left with collecting := some (c.without l) }).answered l q line [asc "OK", asc "LEFT"])) ∧
    (∀ c, s.mode = .run → s.collecting = some c → (s.role l).voting = true →
      ∃ t : State, exec (.leave dt l q []) s = .next (t.answered l q line [asc "OK", asc "LEFT"]) ∧
        DepartureEnds left c l .left t) ∧
    ((s.role l).seated = false → s.role l ≠ .excluded →
      exec (.leave dt l q []) s =
        .next ((s.taking dt l q).answered l q line [asc "NO", asc "ROLE", roleText (s.role l)])) ∧
    ∀ f fs, s.role l ≠ .excluded →
      exec (.leave dt l q (f :: fs)) s =
        .next ((s.taking dt l q).answered l q (requestText q (verbText .leave) (f :: fs))
          [asc "NO", asc "FIELD", asc "COUNT"])

/-- When the lane IN_CONTROL, the only voter, sends LEAVE and no lane is HELD, SAFE is entered at that event: the collecting round
is discarded, PROBATION lanes go to ABSENT with their LEFT records, every defined point's target is its safe value, the round number
and the summary stay, and the newest record is SAFE_ENTERED with the number of targets changed (R11, R42, R66, R135). When a link
controller's choice is held back is the model's reading (log entry 7). -/
def Obligations.LastVoterEntersSafe : Prop :=
  ∀ (s : State) (dt : Nat) (l : Lane) (q : Byte) (c : Collecting), s.Expects l q → s.mode = .run → s.collecting = some c →
    s.role l = .inControl → (∀ m, m ≠ l → (s.role m).voting = false ∧ s.role m ≠ .held) →
    (∀ p d, (s.point p).defn = some d → (s.point p).state ≠ .inert ∧ (s.point p).state ≠ .undefined) →
    ∃ t : State, exec (.leave dt l q []) s =
        .next (t.answered l q (requestText q (verbText .leave) []) [asc "OK", asc "LEFT"]) ∧
      SafeEntered ({ (s.taking dt l q).leaving l (s.lane l) with collecting := some (c.without l) }) l .left t ∧
      t.mode = .safe ∧ t.collecting = none ∧ t.round = s.round ∧ t.summary = s.summary ∧
      (∀ p d, (s.point p).defn = some d → (t.point p).target = some d.safe ∧ (t.point p).applied = (s.point p).applied ∧
        (t.point p).splits = (s.point p).splits ∧
        (t.point p).changed = if (s.point p).target = some d.safe then (s.point p).changed else none) ∧
      t.log.ring.getLast?.map Record.event = some {
        code := .safeEntered, lane := some l, round := some s.round,
        cause := some (.code .left), values := [((List.finRange 64).filter fun p =>
          decide ((s.point p).defn.isSome = true ∧ (s.point p).target ≠ (s.point p).defn.map PointDef.safe)).length] }

/-- HANDOVER from the lane IN_CONTROL to a STANDBY lane exchanges their roles with a CONTROL record; slots, seals, strikes and
timers stay (R62). Its refusals come in the order form, mode, role, target (R61). That a HANDOVER with several fields is refused for
its count whatever the first is, is the model's reading (log entry 9). -/
def Obligations.HandoverPasses : Prop :=
  (∀ (s : State) (dt : Nat) (l t : Lane) (q : Byte), s.Expects l q → s.mode = .run → s.role l = .inControl →
    s.role t = .standby →
    exec (.handover dt l q [laneText t]) s =
      .next ((({ s.taking dt l q with
          lanes :=
            ((s.taking dt l q).lanes.set l { (s.taking dt l q).lane l with role := .standby }).set t
              { s.lane t with role := .inControl } }).append
          { code := .control, lane := some t, round := some s.round, cause := some .handover }).answered l q
        (requestText q (verbText .handover) [laneText t]) [asc "OK", asc "CONTROL", laneText t])) ∧
  ∀ (s : State) (dt : Nat) (l : Lane) (q : Byte), s.Expects l q → s.role l ≠ .excluded →
    let refused (fields why : List Text) := exec (.handover dt l q fields) s =
      .next ((s.taking dt l q).answered l q (requestText q (verbText .handover) fields) (asc "NO" :: why))
    RefusesForm refused "LANE" "LANE" (fun x => ∀ m, x ≠ laneText m) ∧
    ∀ t, (s.mode ≠ .run → refused [laneText t] [asc "MODE"]) ∧
      (s.mode = .run → s.role l ≠ .inControl → refused [laneText t] [asc "ROLE", roleText (s.role l)]) ∧
      (s.mode = .run → s.role l = .inControl → s.role t ≠ .standby →
        refused [laneText t] [asc "TARGET", roleText (s.role t)])

/-- An accepted RETURN restores the carried strikes and streak, ends the hold and starts the quiet timer; the lane is STANDBY, or
takes a vacant control with a CONTROL record after the RETURNED record (R79). Its refusals come in the order form, role, power,
digest, in every mode (R78). That a RETURN with several fields is refused for its count whatever the first is, is the model's
reading (log entry 9). -/
def Obligations.ReturnRestores : Prop :=
  (∀ (s : State) (dt : Nat) (l : Lane) (q : Byte) (td : Text) (r : Role) (d : Moment) (n k : Nat),
    s.Listens l → s.role l = .held → (s.lane l).power = .high → readDigest td = some s.digest →
    (s.lane l).roleBefore = some r → (s.lane l).holdDeadline = some d → (s.lane l).carriedStrikes = some n →
    (s.lane l).carriedStreak = some k →
    let back (role : Role) := { s.lane l with
      role, strikes := n, streak := k, holdDeadline := none, roleBefore := none, carriedStrikes := none
      carriedStreak := none, quiet := some ((s.advance dt).expiry s.settings.quiet) }
    let record : Event := {
      code := .returned, lane := some l, round := some s.round, cause := some (.role r),
      values := [n, (d.ms - (s.advance dt).now).toNat] }
    let line := requestText q (verbText .returnLane) [td]
    ((∃ m, s.role m = .inControl) →
      exec (.returnLane dt l q [td]) s =
        .next ((({ s.taking dt l q with lanes := s.lanes.set l (back .standby) }).append record).answered l q line
          [asc "OK", asc "RETURNED", dec s.round, asc "STANDBY"])) ∧
    ((∀ m, (s.role m).voting = false) →
      exec (.returnLane dt l q [td]) s =
        .next (((({ s.taking dt l q with lanes := s.lanes.set l (back .inControl) }).append record).append
            { code := .control, lane := some l, round := some s.round, cause := some .assign }).answered l q line
          [asc "OK", asc "RETURNED", dec s.round, asc "IN_CONTROL"]))) ∧
  ∀ (s : State) (dt : Nat) (l : Lane) (q : Byte), s.Listens l → s.role l ≠ .excluded →
    let refused (fields why : List Text) := exec (.returnLane dt l q fields) s =
      .next ((s.taking dt l q).answered l q (requestText q (verbText .returnLane) fields) (asc "NO" :: why))
    RefusesForm refused "DIGEST" "DIGEST" (fun t => readDigest t = none) ∧
    ∀ td d, readDigest td = some d →
      (s.role l ≠ .held → refused [td] [asc "ROLE", roleText (s.role l)]) ∧
      (s.role l = .held → (s.lane l).power ≠ .high → refused [td] [asc "POWER", powerText (s.lane l).power]) ∧
      (s.role l = .held → (s.lane l).power = .high → d ≠ s.digest → refused [td] [asc "DIGEST"])

/-- A quiet expiry appends QUIET and suspends the lane with cause QUIET, or excludes it when its suspension count reaches SUSPLIMIT.
A PROBATION lane's contribution is withdrawn. A voter departs: its contribution is withdrawn, a vacant control passes, and the round
stays open, closes, or gives way to SAFE (R28, R55, R56, R59, R63, R64, R66). That device time alone passes where the timer is
stopped or its expiry is not reached, and how "reached" is read, are the model's choices (log entries 3 and 6). Where the departure
closes the round, that a SPLIT moves the target follows R33 against R10: the model's choice (log entry 18). When a link controller's
choice is held back is the model's reading (log entry 7). -/
def Obligations.QuietExpirySuspends : Prop :=
  (∀ (s : State) (dt : Nat) (l : Lane), s.inReset = false → (s.lane l).quiet = none →
    exec (.quietTimerExpiry dt l) s = .next (s.advance dt)) ∧
  ∀ (s : State) (dt : Nat) (l : Lane) (c : Collecting) (d : Moment), s.inReset = false → s.mode = .run → s.collecting = some c →
    (s.lane l).quiet = some d →
    let silent := (s.advance dt).silenced l
    (DueAt (s.advance dt).clock d → s.role l = .probation →
      exec (.quietTimerExpiry dt l) s = .next { silent with collecting := some (c.without l) }) ∧
    (DueAt (s.advance dt).clock d → (s.role l).voting = true →
      ∃ t : State, exec (.quietTimerExpiry dt l) s = .next t ∧ DepartureEnds silent c l (s.goneCode l) t) ∧
    (¬ DueAt (s.advance dt).clock d → exec (.quietTimerExpiry dt l) s = .next (s.advance dt))

/-- A confirmed loss, in every role. A voter whose flap check passes goes to HELD with its strikes and streak carried, and one whose
check fails is EXCLUDED with cause FLAP; either departs: its contribution is withdrawn, a vacant control passes, and the round stays
open, closes, or gives way to SAFE. A PROBATION lane goes to ABSENT. A second loss of a HELD lane that passes the check changes
nothing more; one that fails it excludes the lane, and SAFE follows where no voting or HELD lane is left. The session holder loses
the session. In the other roles the power line state alone changes (R71 to R77, R82). That device time alone passes where no confirm
delay runs or its end is not reached, and how "reached" is read, are the model's choices (log entries 3 and 6). Where the departure
closes the round, that a SPLIT moves the target follows R33 against R10: the model's choice (log entry 18). When a link controller's
choice is held back is the model's reading (log entry 7). -/
def Obligations.LossConfirmed : Prop :=
  (∀ (s : State) (dt : Nat) (l : Lane), s.inReset = false → (s.lane l).power ≠ .confirming ∨ (s.lane l).confirm = none →
    exec (.confirmTimerExpiry dt l) s = .next (s.advance dt)) ∧
  ∀ (s : State) (dt : Nat) (l : Lane) (e : Moment), s.inReset = false → (s.lane l).power = .confirming →
    (s.lane l).confirm = some e →
    let u := s.advance dt
    (¬ DueAt u.clock e → exec (.confirmTimerExpiry dt l) s = .next u) ∧
    (DueAt u.clock e →
      (∀ c, s.mode = .run → s.collecting = some c → (s.role l).voting = true →
        ∃ t : State, exec (.confirmTimerExpiry dt l) s = .next t ∧
          (u.Steady l → DepartureEnds
            (u.lost l ((s.lane l).holding (u.expiry s.settings.hold)) (.role (s.role l))) c l .powerLoss t) ∧
          (¬ u.Steady l → DepartureEnds (u.flapped l) c l .excluded t)) ∧
      (∀ c, s.collecting = some c → s.role l = .probation →
        exec (.confirmTimerExpiry dt l) s =
          .next { u.lost l (s.lane l).away (.role .probation) with collecting := some (c.without l) }) ∧
      (s.role l = .held → u.Steady l →
        exec (.confirmTimerExpiry dt l) s = .next (u.lost l (s.lane l) (.role .held))) ∧
      (s.role l = .held → ¬ u.Steady l →
        ∃ t : State, exec (.confirmTimerExpiry dt l) s = .next t ∧
          ((∃ m, m ≠ l ∧ ((s.role m).voting = true ∨ s.role m = .held)) → Served bothLinks (u.flapped l) t) ∧
          (s.mode = .run → (∀ m, m ≠ l → (s.role m).voting = false ∧ s.role m ≠ .held) →
            SafeEntered (u.flapped l) l .excluded t)) ∧
      (s.role l = .absent → s.session = some l →
        exec (.confirmTimerExpiry dt l) s = .next { u.lost l (s.lane l) .session with session := none, idle := none }) ∧
      (s.role l = .absent ∧ s.session ≠ some l ∨ s.role l = .suspended ∨ s.role l = .excluded →
        exec (.confirmTimerExpiry dt l) s =
          .next { u with lanes := s.lanes.set l { s.lane l with power := .low, confirm := none } }))

/-- A fall from HIGH starts the confirm delay of 0.5 ms; a rise from CONFIRMING is a glitch with its record; a rise from LOW sets
the last power return time; nothing else of the lane changes (R69, R70). -/
def Obligations.PowerEdges : Prop :=
  ∀ (s : State) (dt : Nat) (l : Lane), s.inReset = false →
    ((s.lane l).power = .high → exec (.pgFall dt l) s = .next { s.advance dt with lanes := s.lanes.set l { s.lane l with
      power := .confirming, confirm := some ((s.clock.after dt).after 500) } }) ∧
    ((s.lane l).power = .confirming → exec (.pgRise dt l) s = .next (({ s.advance dt with lanes := s.lanes.set l { s.lane l with
      power := .high, confirm := none } }).append
        { code := .powerGlitch, lane := some l, cause := some (.role (s.role l)) })) ∧
    ((s.lane l).power = .low → exec (.pgRise dt l) s = .next { s.advance dt with lanes := s.lanes.set l { s.lane l with
      power := .high, lastReturn := some (s.clock.after dt).ms } })

/-- A hold that expires is recorded with the carried strikes and followed by a suspension with cause HOLD, or by exclusion at
SUSPLIMIT. While some other lane votes or is HELD the part stays in RUN and the round is untouched; the expiry of the last such lane
enters SAFE (R66, R80). That device time alone passes where no hold runs or its deadline is not reached, and how "reached" is read,
are the model's choices (log entries 3 and 6). When a link controller's choice is held back is the model's reading (log entry 7). -/
def Obligations.HoldExpirySuspends : Prop :=
  (∀ (s : State) (dt : Nat) (l : Lane), s.inReset = false → s.role l ≠ .held ∨ (s.lane l).holdDeadline = none →
    exec (.holdExpiry dt l) s = .next (s.advance dt)) ∧
  ∀ (s : State) (dt : Nat) (l : Lane) (r : Role) (n : Nat) (d : Moment), s.inReset = false → s.role l = .held →
    (s.lane l).holdDeadline = some d → (s.lane l).roleBefore = some r → (s.lane l).carriedStrikes = some n →
    let expired := ((s.advance dt).append
      { code := .holdExpired, lane := some l, round := some s.round, cause := some (.role r), values := [n] }).suspending l .hold
    (DueAt (s.advance dt).clock d → (∃ m, m ≠ l ∧ ((s.role m).voting = true ∨ s.role m = .held)) →
      ∃ t : State, exec (.holdExpiry dt l) s = .next t ∧ Served bothLinks expired t) ∧
    (DueAt (s.advance dt).clock d → s.mode = .run → (∀ m, m ≠ l → (s.role m).voting = false ∧ s.role m ≠ .held) →
      ∃ t : State, exec (.holdExpiry dt l) s = .next t ∧ SafeEntered expired l (s.goneCode l) t) ∧
    (¬ DueAt (s.advance dt).clock d → exec (.holdExpiry dt l) s = .next (s.advance dt))

/-- A suspended-until that device time has reached becomes absent without a record (R57); the idle expiry releases the session with
its record (R128). That "reached" is read as the interval to now lying in the lower half of the 32-bit range is the model's
inference (log entry 6), and that device time alone passes where neither is set or the idle expiry is not reached is its choice (log
entry 3). -/
def Obligations.WaitsAndSessionsEnd : Prop :=
  (∀ (s : State) (dt : Nat) (l : Lane) (d : Time), s.inReset = false → (s.lane l).suspendedUntil = some d →
    exec (.suspendedUntilReached dt l) s =
      .next (if Due (s.advance dt).now d then
          { s.advance dt with lanes := s.lanes.set l { s.lane l with suspendedUntil := none } }
        else s.advance dt)) ∧
  (∀ (s : State) (dt : Nat), s.inReset = false →
    (∀ l, (s.lane l).suspendedUntil = none → exec (.suspendedUntilReached dt l) s = .next (s.advance dt)) ∧
    (s.session = none ∨ s.idle = none → exec (.sessionIdleExpiry dt) s = .next (s.advance dt))) ∧
  ∀ (s : State) (dt : Nat) (l : Lane) (d : Moment), s.inReset = false → s.session = some l → s.idle = some d →
    exec (.sessionIdleExpiry dt) s =
      .next (if DueAt (s.advance dt).clock d then
          ({ s.advance dt with session := none, idle := none }).append
            { code := .sessionExpired, lane := some l, cause := some .idle }
        else s.advance dt)

/-! ## Banks and driver links -/

/-- A WARMING or SWITCHING bank whose settle deadline is reached becomes ACTIVE with resync set and no settle deadline. On a busy
link nothing more happens. On an idle one the bank that the rotation comes to starts its exchange; where that is this bank, its
APPLY loads every defined slot with its target (R12, R91, R95, R96, R113). The controller makes its choice only after other settle
deadlines and survey due times of the same device time have been taken too, by what it remembers of the one just taken (log entry
7). That device time alone passes where the deadline is not reached, and how "reached" is read, are the model's choices (log entries
3 and 6). -/
def Obligations.SettledBankStarts : Prop :=
  ∀ (s : State) (dt : Nat) (b : BankNo) (k : LinkNo) (d : Moment) (c : Instr), s.inReset = false →
    (c = .warmingSettleDeadline dt b ∧ (s.bank b).state = .warming ∨
      c = .switchingSettleDeadline dt b ∧ (s.bank b).state = .switching) →
    (s.bank b).activeLink = some k → (s.bank b).settle = some d →
    let active := { s.bank b with state := .active, resync := true, settle := none }
    let u := { s.advance dt with
      banks := s.banks.set b active, links := s.links.set k { s.link k with settledAt := some d.ms } }
    (¬ DueAt (s.advance dt).clock d → exec c s = .next (s.advance dt)) ∧
    (DueAt (s.advance dt).clock d → (s.link k).transaction.isSome = true ∨ u.heldBack k = true → exec c s = .next u) ∧
    (∀ e, DueAt (s.advance dt).clock d → (s.link k).transaction = none → u.heldBack k = false → u.choice k = some e → e ≠ b →
      ∃ t : State, exec c s = .next t ∧ Served [k] u t ∧ (t.link k).pointer = e ∧ (t.bank e).exchange.isSome = true ∧
        t.bank b = active) ∧
    (DueAt (s.advance dt).clock d → (s.link k).transaction = none → u.heldBack k = false → u.choice k = some b →
      ∃ (t : State) (x : Exchange), exec c s = .next t ∧
        x.phase = .load ∧ x.tag = (s.bank b).tag + 1#8 ∧ x.attempt = .first ∧ x.link = k ∧
        x.loaded = (List.finRange 8).filterMap (fun i =>
          if (s.point (pointAt b i)).defn.isSome then (s.point (pointAt b i)).target.map (fun v => Entry.mk i v) else none) ∧
        t.bank b = { active with tag := x.tag, resync := false, pendingSet := Vector.replicate 8 false, exchange := some x } ∧
        t.link k = { s.link k with
          pointer := b, settledAt := none, transaction := some {
            bank := b, wait := .sending
            frame := { address := ((s.bank b).defn.map BankDef.address).getD 0, kind := .load, tag := x.tag,
                       entries := x.loaded } } } ∧
        (∀ p, t.point p = if bankOf p = b ∧ (s.point p).defn.isSome = true ∧ (s.point p).target.isSome = true
          then { s.point p with state := .loading } else s.point p) ∧
        (∀ e, e ≠ b → t.bank e = s.bank e) ∧ t.link k.other = s.link k.other ∧
        t = { s.advance dt with points := t.points, banks := t.banks, links := t.links })

/-- The rotation of a link controller: it chooses the candidate that comes first in bank order after the pointer, wrapping from 7 to
0, the pointer's own bank last, and none only where there is no candidate. A candidate is ACTIVE on this link, has no exchange in
flight and has work (R95). An idle link starts the exchange of the bank it chooses, an APPLY where slots are pending or resync is
set and a SURVEY otherwise, unless a settle deadline or survey due time of the link whose device time has come is still to be taken
and falls at the same device time as another on it; the two controllers choose independently. That a due time keeps the fraction of
the millisecond at which it was set (log entry 2), that reading of "the same device time" (log entry 7), and that a device time has
come when the interval to now lies in the lower half of the 32-bit range (log entry 6), are the model's. -/
def Obligations.RotationRule : Prop :=
  ∀ (s : State) (k : LinkNo),
    let work (b : BankNo) := (∃ i : SlotNo, (s.bank b).pendingSet[i] = true) ∨ (s.bank b).resync = true ∨
      ∃ e, (s.bank b).surveyDue = some e ∧ DueAt s.clock e
    let candidate (b : BankNo) := (s.bank b).state = .active ∧ (s.bank b).activeLink = some k ∧
      (s.bank b).exchange = none ∧ work b
    let turn (b : BankNo) : Nat := (b.val + 7 - (s.link k).pointer.val) % 8
    let settles (b : BankNo) (d : Time) := ((s.bank b).state = .warming ∨ (s.bank b).state = .switching) ∧
      (s.bank b).activeLink = some k ∧ (s.bank b).settle.map Moment.ms = some d
    (∀ b, s.choice k = some b ↔ candidate b ∧ ∀ e, candidate e → turn b ≤ turn e) ∧
    (s.choice k = none ↔ ∀ b, ¬ candidate b) ∧
    (s.heldBack k = true ↔ ∃ b d, (settles b d ∧ Due s.now d ∨ s.SurveysAt k b d ∧ d = s.now ∧ ¬ work b) ∧
      ((s.link k).settledAt = some d ∨ ∃ e, e ≠ b ∧ (settles e d ∨ s.SurveysAt k e d))) ∧
    Served [k] s (s.serveLink k) ∧ Served bothLinks s s.serveLinks

/-- When a bank's survey due time is reached, the controller of its active link makes its choice; where the link is idle and the
rotation comes to this bank, with no pending slot and no resync, it starts a SURVEY: the tag is not advanced and no point moves
(R95, R100). How the due time is "reached", to the microsecond (log entries 2 and 6), that the choice is held back for deadlines of
the same device time still to be taken as the premise on heldBack says (log entry 7), and that device time alone passes where the
due time is not reached (log entry 3), are the model's. -/
def Obligations.SurveyStarts : Prop :=
  ∀ (s : State) (dt : Nat) (b : BankNo) (k : LinkNo) (d : Moment), s.inReset = false →
    (s.bank b).state = .active → (s.bank b).activeLink = some k → (s.bank b).surveyDue = some d →
    (¬ DueAt (s.advance dt).clock d → exec (.surveyDue dt b) s = .next (s.advance dt)) ∧
    (DueAt (s.advance dt).clock d →
      ∃ t : State, exec (.surveyDue dt b) s = .next t ∧ Served [k] (s.advance dt) t) ∧
    (DueAt (s.advance dt).clock d → (s.link k).transaction = none → (s.advance dt).heldBack k = false →
      (s.advance dt).choice k = some b → (s.bank b).pendingSet = Vector.replicate 8 false → (s.bank b).resync = false →
      exec (.surveyDue dt b) s =
        .next { s.advance dt with
          banks := s.banks.set b { s.bank b with
            exchange := some { phase := .survey, tag := (s.bank b).tag, loaded := [], attempt := .first, link := k } }
          links := s.links.set k { s.link k with
            pointer := b, settledAt := none, transaction := some {
              bank := b, wait := .sending
              frame := { address := ((s.bank b).defn.map BankDef.address).getD 0, kind := .survey, tag := (s.bank b).tag,
                         entries := [] } } } })

/-- The end of the part's frame starts the reply timer with REPLYTIME tenths of a millisecond (R92). A timeout on attempt 1 clears
the link's success streak and sends the same frame again as attempt 2 (R97, R98, R100, R102). A frame that no transaction awaits
changes nothing but device time, and one that was arriving when the reply timer expired is discarded when it completes (R92). That
device time alone passes where the expiry is not reached, and how "reached" is read, are the model's choices (log entries 3 and 6).
That a discard stays in force past the part's own frame, until the end of a module frame is received, is the model's choice (log
entry 11). -/
def Obligations.TransactionWaits : Prop :=
  (∀ (s : State) (dt : Nat) (k : LinkNo) (b : BankNo) (f : Frame), s.inReset = false →
    (s.link k).transaction = some { bank := b, frame := f, wait := .sending } →
    exec (.driverFrameSent dt k) s = .next { s.advance dt with links := s.links.set k { s.link k with
      transaction := some {
        bank := b, frame := f,
        wait := .awaiting ((s.clock.after dt).after (100 * s.settings.replytime)) } } }) ∧
  (∀ (s : State) (dt : Nat) (k : LinkNo) (bytes : List RxByte), s.inReset = false →
    ((s.link k).discardNext = false →
      ((s.link k).transaction = none ∨ ∃ b f, (s.link k).transaction = some { bank := b, frame := f, wait := .sending }) →
      exec (.driverFrameReceived dt k bytes) s = .next (s.advance dt)) ∧
    ((s.link k).discardNext = true →
      exec (.driverFrameReceived dt k bytes) s =
        .next { s.advance dt with links := s.links.set k { s.link k with discardNext := false } })) ∧
  ∀ (s : State) (dt : Nat) (k : LinkNo) (b : BankNo) (d : BankDef) (x : Exchange) (e : Moment) (mid : Bool),
    s.Waits k b d x e →
    (DueAt (s.clock.after dt) e → x.attempt = .first →
      exec (.replyTimerExpiry dt k mid) s = .next { s.advance dt with
        banks := s.banks.set b { s.bank b with
          exchange := some { x with attempt := .second }
          links := (s.bank b).links.set k { (s.bank b).links.get k with streak := 0 } }
        links := s.links.set k { s.link k with
          discardNext := mid, transaction := some { bank := b, frame := stepFrame d.address x, wait := .sending } } }) ∧
    (¬ DueAt (s.clock.after dt) e → exec (.replyTimerExpiry dt k mid) s = .next (s.advance dt))

/-- An ECHO that carries exactly the loaded entries is a valid reply: the streak rises or wears a strike away, the step becomes
TRANSFER with attempt 1 and the TRANSFER frame is sent. A reply that fails on attempt 1, an ECHO with other entries or in any step
one that is not well formed, clears the link's streak and the same frame is sent again as attempt 2 (R93, R97, R98, R100, R102).
That any frame completing in the wait is judged, a late reply of an earlier wait included, is the model's reading of R92 (log entry
11). -/
def Obligations.EchoTransfers : Prop :=
  ∀ (s : State) (dt : Nat) (k : LinkNo) (b : BankNo) (d : BankDef) (x : Exchange) (e : Moment) (bytes : List RxByte),
    s.Waits k b d x e → (s.link k).discardNext = false →
    (x.phase = .load → Answers d.address x x.loaded bytes →
      exec (.driverFrameReceived dt k bytes) s =
        .next { s.advance dt with
          banks := s.banks.set b { s.bank b with
            exchange := some { x with phase := .transfer, attempt := .first }
            links := (s.bank b).links.set k (((s.bank b).links.get k).noted s.settings.linkdecay true) }
          links := s.links.set k { s.link k with transaction := some {
            bank := b, wait := .sending
            frame := { address := d.address, kind := .transfer, tag := x.tag, entries := [] } } } }) ∧
    (x.attempt = .first → (∀ es, Answers d.address x es bytes → x.phase = .load ∧ es ≠ x.loaded) →
      exec (.driverFrameReceived dt k bytes) s =
        .next { s.advance dt with
          banks := s.banks.set b { s.bank b with
            exchange := some { x with attempt := .second }
            links := (s.bank b).links.set k { (s.bank b).links.get k with streak := 0 } }
          links := s.links.set k { s.link k with
            transaction := some { bank := b, frame := stepFrame d.address x, wait := .sending } } })

/-- A well-formed DONE finishes its exchange: each loaded point whose sensed value is within tolerance gets the loaded value as its
applied value, any other has it made absent, and each is SETTLED where its applied value is its target and PENDING with its slot
pending otherwise. A well-formed STATE makes the applied value of each defined point beyond tolerance absent, and the point PENDING
with its slot pending. The survey due time is set, and one link strike is charged where any slot failed, its record naming the
lowest point and the number of slots; otherwise the reply is valid and no record is made (R13, R14, R93, R98, R99, R101, R102,
R103). When a link controller's choice is held back is the model's reading (log entry 7). That any frame completing in the wait is
judged, a late reply of an earlier wait included, is the model's reading of R92 (log entry 11). -/
def Obligations.DoneConfirms : Prop :=
  ∀ (s : State) (dt : Nat) (k : LinkNo) (b : BankNo) (d : BankDef) (x : Exchange) (e : Moment) (es : List Entry)
    (bytes : List RxByte), s.Waits k b d x e → (s.link k).discardNext = false → Answers d.address x es bytes →
    (x.phase = .transfer →
      let failed := (List.finRange 64).filter fun p => bankOf p = b && match carried x.loaded p with
        | some v => !confirms es p v (s.point p)
        | none => false
      let u := (s.advance dt).exchangeOver k b failed.isEmpty fun p r member => match carried x.loaded p with
        | some v => reconciled { r with applied := if confirms es p v r then some v else none }
        | none => (r, member)
      ∃ t : State, exec (.driverFrameReceived dt k bytes) s = .next t ∧
        Served [k] (if failed = [] then u
          else u.linkStruck k b (.exchange .transfer .sense) x.tag failed.head? failed.length) t) ∧
    (x.phase = .survey →
      let failed := (List.finRange 64).filter fun p => bankOf p = b && (s.point p).defn.isSome && match (s.point p).applied with
        | some v => !confirms es p v (s.point p)
        | none => false
      let u := (s.advance dt).exchangeOver k b failed.isEmpty fun p r member =>
        if p ∈ failed then ({ r with applied := none, state := .pending }, true) else (r, member)
      ∃ t : State, exec (.driverFrameReceived dt k bytes) s = .next t ∧
        Served [k] (if failed = [] then u
          else u.linkStruck k b (.exchange .survey .sense) x.tag failed.head? failed.length) t)

/-- The failure of attempt 2, by timeout, by a reply that is not well formed, or by an ECHO with other entries, abandons the
exchange. The applied values of the loaded points stay in the LOAD step and are made absent in the TRANSFER step, each point then
being SETTLED or PENDING; a SURVEY moves no point. The survey due time is set and one link strike is charged with its EXCHANGE_FAIL
record, at LINKSTRIKES with the failure of the link and failover or disqualification (R13, R14, R93, R97, R98, R99, R101, R103,
R109, R110, R115, R116). How the expiry of the reply timer is "reached" is the model's reading (log entry 6). When a link
controller's choice is held back is the model's reading (log entry 7). That any frame completing in the wait is judged, a late reply
of an earlier wait included, is the model's reading of R92 (log entry 11). -/
def Obligations.AbandonedSurveyStrikes : Prop :=
  ∀ (s : State) (dt : Nat) (k : LinkNo) (b : BankNo) (d : BankDef) (x : Exchange) (e : Moment), s.Waits k b d x e →
    x.attempt = .second →
    let ended (mid : Bool) :=
      ({ s.advance dt with links := s.links.set k { s.link k with discardNext := mid } }).exchangeOver k b false
        fun p r member => match x.phase, carried x.loaded p with
          | .load, some _ => reconciled r
          | .transfer, some _ => reconciled { r with applied := none }
          | _, _ => (r, member)
    let abandoned (c : Instr) (mid : Bool) (f : Failure) := ∃ t : State, exec c s = .next t ∧
      Served [k] ((ended mid).linkStruck k b (.exchange x.phase f) x.tag none 0) t
    (∀ mid, DueAt (s.clock.after dt) e → abandoned (.replyTimerExpiry dt k mid) mid .timeout) ∧
    ∀ bytes, (s.link k).discardNext = false →
      ((∀ es, ¬ Answers d.address x es bytes) → abandoned (.driverFrameReceived dt k bytes) false .check) ∧
      ∀ es, x.phase = .load → Answers d.address x es bytes → es ≠ x.loaded →
        abandoned (.driverFrameReceived dt k bytes) false .echo

/-! ## Fault Log -/

/-- An append gives the record the next serial and the current device time and joins it to the newest end (R143). On a ring of 64
the oldest record leaves first; a lane whose cursor named it moves to the serial that follows, its gap count rises by 1 up to 255,
and its unread count is 64 after the append (R152). -/
def Obligations.AppendAndDrop : Prop :=
  (∀ (s : State) (e : Event), s.log.ring.length < 64 →
    s.append e = { s with log := { s.log with
      ring := s.log.ring ++ [{ serial := s.log.next, time := s.now, event := e }]
      next := if s.log.next = 4294967295#32 then 1#32 else s.log.next + 1#32 } }) ∧
  ∀ (s : State) (e : Event) (old : Record) (rest : List Record), s.log.Ok → s.log.ring.length = 64 → s.log.ring = old :: rest →
    ∃ cursors gaps, s.append e = { s with log := {
        ring := rest ++ [{ serial := s.log.next, time := s.now, event := e }]
        next := if s.log.next = 4294967295#32 then 1#32 else s.log.next + 1#32, cursors, gaps } } ∧
      (∀ l, s.log.cursors.get l = old.serial →
        cursors.get l = (if old.serial = 4294967295#32 then 1#32 else old.serial + 1#32) ∧
        gaps.get l = (if s.log.gaps.get l = 255 then 255 else s.log.gaps.get l + 1) ∧ (s.append e).log.unread l = 64) ∧
      ∀ l, s.log.cursors.get l ≠ old.serial → cursors.get l = s.log.cursors.get l ∧ gaps.get l = s.log.gaps.get l

/-- FAULTS gives the at most three oldest records from the lane's cursor on, with the gap count where it is above 0, which it sets
back to 0; the cursor stays (R149, R153). A FAULTS with fields is refused for its count. -/
def Obligations.FaultsReads : Prop :=
  ∀ (s : State) (dt : Nat) (l : Lane) (q : Byte) (before ahead : List Record), s.Expects l q → s.log.Ok →
    s.log.ring = before ++ ahead → s.log.cursors.get l = (ahead.head?.map Record.serial).getD s.log.next →
    (∀ f fs, exec (.faults dt l q (f :: fs)) s =
      .next ((s.taking dt l q).answered l q (requestText q (verbText .faults) (f :: fs)) [asc "NO", asc "FIELD", asc "COUNT"])) ∧
    exec (.faults dt l q []) s =
      .next (({ s.taking dt l q with log := { s.log with gaps := s.log.gaps.set l 0 } }).answered l q
        (requestText q (verbText .faults) [])
        ([asc "OK", asc "FAULTS", dec (min 3 ahead.length)] ++
          (if s.log.gaps.get l = 0 then [] else [asc "GAP", dec (s.log.gaps.get l)]) ++
          (ahead.take 3).flatMap fun (r : Record) =>
            [dec r.serial.toNat, dec r.time.toNat, codeText r.event.code, orHyphen laneText r.event.lane,
             orHyphen (fun (b : BankNo) => dec b.val) r.event.bank, orHyphen linkText r.event.link,
             orHyphen (fun (p : PointNo) => dec p.val) r.event.point, orHyphen dec r.event.round, orHyphen causeText r.event.cause,
             if r.event.values = [] then asc "-" else [44#8].intercalate (r.event.values.map dec)]))

/-- ACK of a held record at or after the cursor moves the cursor to the serial that follows it; any other number is refused with the
cursor, which stays. More than one field is refused for the count, and a field that is not 1 to 10 digits, or none, under SERIAL
(R150). -/
def Obligations.AckMoves : Prop :=
  ∀ (s : State) (dt : Nat) (l : Lane) (q : Byte) (before ahead : List Record), s.Expects l q → s.log.Ok →
    s.log.ring = before ++ ahead → s.log.cursors.get l = (ahead.head?.map Record.serial).getD s.log.next →
    (∀ n ts r, readDecimal 10 ts = some n → r ∈ ahead → r.serial.toNat = n →
      exec (.ack dt l q [ts]) s =
        .next (({ s.taking dt l q with
          log := { s.log with
            cursors := s.log.cursors.set l (if r.serial = 4294967295#32 then 1#32 else r.serial + 1#32) } }).answered l q
          (requestText q (verbText .ack) [ts]) [asc "OK", asc "ACKED", dec n])) ∧
    (∀ n ts, readDecimal 10 ts = some n → (∀ r ∈ ahead, r.serial.toNat ≠ n) →
      exec (.ack dt l q [ts]) s =
        .next ((s.taking dt l q).answered l q (requestText q (verbText .ack) [ts])
          [asc "NO", asc "RANGE", dec (s.log.cursors.get l).toNat])) ∧
    RefusesForm (fun fields why => exec (.ack dt l q fields) s =
      .next ((s.taking dt l q).answered l q (requestText q (verbText .ack) fields) (asc "NO" :: why)))
      "SERIAL" "SERIAL" fun t => readDecimal 10 t = none

/-! ## Lane Ports and reports -/

/-- The sequence decision for a line whose verb is sequenced or unknown to the part: NO SEQ NONE with no expected number; the stored
reply again, with the unread count of now, for the last line repeated character for character; NO SEQ and the expected number in
every other case but the expected number itself. None of them is stored (R161, R163, R164). The line comes as its own command or as
its characters in any accepted spelling (log entries 4, 10 and 16). -/
def Obligations.SequenceDecision : Prop :=
  ∀ (s : State) (dt : Nat) (l : Lane) (q : Byte) (c : Instr) (text verb : Text) (fields : List Text), s.Listens l →
    Sends c text verb dt l q fields → (∀ v, verb = verbText v → resynchronises v = false) →
    ((s.port l).expected = none →
      exec c s = .next ((s.heard dt l).replied l q [asc "NO", asc "SEQ", asc "NONE"])) ∧
    (∀ body, (s.port l).expected = some (q + 1#8) →
      (s.port l).stored = some { line := text, body } →
      exec c s = .next ((s.heard dt l).replied l q body)) ∧
    (∀ e, (s.port l).expected = some e → e ≠ q →
      (e ≠ q + 1#8 ∨ ∀ m, (s.port l).stored = some m → m.line ≠ text) →
      exec c s = .next ((s.heard dt l).replied l q [asc "NO", asc "SEQ", hexDigits 2 e.toNat]))

/-- What the Lane Port answers itself: NO EXCLUDED for every verb of an EXCLUDED lane but the eight it is served, resynchronising
verbs whatever their number; NO VERB with the verb as received for a verb it does not know. Both are stored and advance the expected
number (R162, R164, R165). -/
def Obligations.PortAnswers : Prop :=
  (∀ (s : State) (dt : Nat) (l : Lane) (q : Byte) (c : Instr) (v : Verb) (fields : List Text), s.Listens l →
    IsRequest c v dt l q fields → (s.port l).expected = some q ∨ resynchronises v = true → s.role l = .excluded →
    v ∉ [Verb.status, .lanes, .points, .banks, .round, .digest, .faults, .ack] →
    exec c s =
      .next ((s.taking dt l q).answered l q (requestText q (verbText v) fields) [asc "NO", asc "EXCLUDED"])) ∧
  ∀ (s : State) (dt : Nat) (l : Lane) (q : Byte) (verb : Text) (fields : List Text), s.Expects l q →
    (∀ v, verbText v ≠ verb) →
    exec (.unknownVerb dt l q verb fields) s =
      .next ((s.taking dt l q).answered l q (requestText q verb fields) [asc "NO", asc "VERB", verb])

/-- The characters of a well-formed request line, received undamaged, are that request: the line checks and the token reading give
back exactly its sequence number, verb and fields, for a verb the part knows and for one it does not (R157, R158, R164, R180, R181).
In its canonical spelling the line does what the request's own command does, whatever the port holds; that the command stands for
that line is the model's reading (log entries 4 and 16). In any other accepted spelling, hexadecimal digits in either case and
several spaces before a field or the asterisk, a line that goes on past the sequence decision does the same but for the stored line,
which is the characters received (R163); that several spaces are accepted everywhere but before the verb is the model's reading (log
entry 10). -/
def Obligations.LineEndIsRequest : Prop :=
  (∀ (s : State) (dt : Nat) (l : Lane) (q : Byte) (c : Instr) (verb : Text) (fields : List Text),
    goodRequest q verb fields = true → IsLine c verb dt l q fields →
    checkLine (requestChars (mkRequest q verb fields)) = .ok (mkRequest q verb fields) ∧
    exec (.lineEnd dt l (requestChars (mkRequest q verb fields))) s = exec c s) ∧
  ∀ (s : State) (dt : Nat) (l : Lane) (q : Byte) (c : Instr) (text verb : Text) (fields : List Text),
    Spells text q verb fields → IsLine c verb dt l q fields →
    checkLine (lineChars text) = .ok { text, seq := q, verb, fields } ∧
    (s.Listens l → (s.port l).expected = some q ∨ (∃ v, verb = verbText v ∧ resynchronises v = true) →
      ∃ (t : State) (body : List Text), exec c s = .next (t.answered l q (requestText q verb fields) body) ∧
        exec (.lineEnd dt l (lineChars text)) s = .next (t.answered l q text body))

/-- A discarded line makes a LINE_ERROR record and no reply. It costs a voter one strike and any other lane nothing; at STRIKES the
voter is suspended in mid round and departs. The cause is OVERRUN where two lines wait, whatever the line holds, and otherwise that
of the first of the checks damage, shape, CRC and start that fails; LENGTH for an over-length line, whose rest up to the next LF is
dropped without another record, the characters of a request among them (R53, R55, R64, R158). That an LF which itself arrived
damaged ends the line is the model's choice (log entry 19); that a SPLIT moves the target, where the departure closes the round,
follows R33 against R10 and is its choice too (log entry 18); that a second space after the sequence number fails the last check
(log entry 10), and that a request's own command stands for its line, OVERRUN and dropping included (log entries 4 and 16), are its
readings. When a link controller's choice is held back is the model's reading (log entry 7). -/
def Obligations.LineDiscarded : Prop :=
  ∀ (s : State) (dt : Nat) (l : Lane), s.inReset = false →
    let discarded (w : LineFault) (dropping : Bool) := ({ s.advance dt with
      ports := s.ports.set l { s.port l with assembling := [], dropping } }).append
        { code := .lineError, lane := some l, cause := some (.line w) }
    let discards (c : Instr) (w : LineFault) (dropping : Bool) :=
      ((s.role l).voting = false → exec c s = .next (discarded w dropping)) ∧
      ((s.role l).voting = true → (s.lane l).strikes + 1 ≠ s.settings.strikes →
        exec c s = .next { discarded w dropping with
          lanes := s.lanes.set l { s.lane l with strikes := (s.lane l).strikes + 1, streak := 0 } }) ∧
      ∀ r, (s.role l).voting = true → (s.lane l).strikes + 1 = s.settings.strikes → s.mode = .run → s.collecting = some r →
        ∃ t : State, exec c s = .next t ∧ DepartureEnds ((discarded w dropping).suspending l .strikes) r l (s.goneCode l) t
    ((s.port l).dropping = false → discards (.lineOverLength dt l) .length true) ∧
    (∀ chars, (s.port l).dropping = false → 2 ≤ (s.port l).queue.length → discards (.lineEnd dt l chars) .overrun false) ∧
    (∀ chars w, (s.port l).dropping = false → (s.port l).queue.length < 2 → FailsLine ((s.port l).assembling ++ chars) w →
      discards (.lineEnd dt l chars) w false) ∧
    (∀ q c verb fields, IsLine c verb dt l q fields → (s.port l).dropping = false → 2 ≤ (s.port l).queue.length →
      discards c .overrun false) ∧
    ∀ c, (s.port l).dropping = true →
      (∃ chars, c = .lineEnd dt l chars) ∨ (∃ q verb fields, IsLine c verb dt l q fields) →
      exec c s = .next { s.advance dt with ports := s.ports.set l { s.port l with assembling := [], dropping := false } }

/-- A request line that ends while the transmitter is busy or lines wait joins the newest end of the queue, which holds at most two.
The end of a reply makes the transmitter idle; with lines waiting, the oldest leaves the queue and is handled as a line taken at its
own LF at this event would be (R159). The line comes as its own command or as its characters in any accepted spelling (log entries
4, 10 and 16). -/
def Obligations.ReplyEndTakesNext : Prop :=
  (∀ (s : State) (dt : Nat) (l : Lane) (q : Byte) (c : Instr) (text verb : Text) (fields : List Text), s.inReset = false →
    Sends c text verb dt l q fields → (s.port l).assembling = [] → (s.port l).dropping = false → (s.port l).queue.length < 2 →
    (s.port l).queue ≠ [] ∨ (s.port l).sending.isSome = true →
    exec c s = .next { s.advance dt with
      ports := s.ports.set l { s.port l with queue := (s.port l).queue ++ [{ text, seq := q, verb, fields }] } }) ∧
  ∀ (s : State) (dt : Nat) (l : Lane), s.inReset = false → (s.port l).sending.isSome = true →
    ((s.port l).queue = [] →
      exec (.replyEnd dt l) s = .next { s.advance dt with ports := s.ports.set l { s.port l with sending := none } }) ∧
    ∀ (c : Instr) (text verb : Text) (q : Byte) (fields : List Text) (rest : List Request), Sends c text verb dt l q fields →
      (s.port l).queue = { text, seq := q, verb, fields } :: rest →
      ∃ t : State, exec c { s with ports := s.ports.set l { s.port l with
          queue := [], sending := none, assembling := [], dropping := false } } = .next t ∧
        (t.port l).sending.isSome = true ∧
        exec (.replyEnd dt l) s = .next { t with ports := t.ports.set l { t.port l with
          queue := rest, assembling := (s.port l).assembling, dropping := (s.port l).dropping } }

/-- STATUS, LANES, ROUND and DIGEST, in every mode and from a lane in any role, EXCLUDED included, answer their fields in order and
change nothing but the lane's port and timers (R169, R171, R173, R177, R178). With fields they are refused for their count (R170).
That the wait field of LANES is a hyphen when the interval from suspended-until to now lies in the lower half of the 32-bit range is
the model's inference (log entry 6). -/
def Obligations.ReportsWhole : Prop :=
  ∀ (s : State) (dt : Nat) (l : Lane) (q : Byte), s.Listens l →
    let now := (s.advance dt).now
    let remaining (d : Time) := dec (d - now).toNat
    let laneOr (x : Option Lane) := match x with | none => asc "NONE" | some m => laneText m
    let letters (x : LaneSet) := if x = noLanes then asc "-" else
      (if x.a then asc "A" else []) ++ (if x.b then asc "B" else []) ++ (if x.c then asc "C" else [])
    let group (m : Lane) := [laneText m, roleText (s.role m), dec (s.lane m).strikes, dec (s.lane m).streak,
      dec (s.lane m).suspensions,
      (match (s.lane m).suspendedUntil with
        | some d => if Due now d then asc "-" else remaining d
        | none => asc "-"),
      dec (s.lane m).probClean, dec (s.lane m).probFails, powerText (s.lane m).power,
      (match (s.lane m).lastReturn with | some d => dec d.toNat | none => asc "-"),
      match (s.lane m).holdDeadline with | some d => remaining d.ms | none => asc "-"]
    let refused (v : Verb) (fields : List Text) := exec (requestOf v dt l q fields) s =
      .next ((s.taking dt l q).answered l q (requestText q (verbText v) fields) [asc "NO", asc "FIELD", asc "COUNT"])
    (∀ f fs, refused .status (f :: fs)) ∧
    exec (.status dt l q []) s = .next ((s.taking dt l q).answered l q (requestText q (verbText .status) [])
      [asc "OK", asc "STATUS", modeText s.mode, dec now.toNat, dec s.round,
       (match s.collecting.bind Collecting.timer with | some d => remaining d.ms | none => asc "STOPPED"),
       laneOr s.control, roleText (s.role .a), roleText (s.role .b), roleText (s.role .c), laneOr s.session,
       hexDigits 8 s.digest.toNat]) ∧
    ((s.port l).expected = some q →
      exec (.lanes dt l q []) s = .next ((s.taking dt l q).answered l q (requestText q (verbText .lanes) [])
        ([asc "OK", asc "LANES"] ++ group .a ++ group .b ++ group .c)) ∧
      exec (.round dt l q []) s = .next ((s.taking dt l q).answered l q (requestText q (verbText .round) [])
        (match s.summary with
          | none => [asc "OK", asc "ROUND", asc "NONE"]
          | some m => [asc "OK", asc "ROUND", dec m.round, closeCauseText m.cause, dec m.time.toNat, letters m.voters,
              letters m.late, letters m.dissenters, dec m.changed, dec m.nomajority, dec m.split])) ∧
      exec (.digest dt l q []) s = .next ((s.taking dt l q).answered l q (requestText q (verbText .digest) [])
        [asc "OK", asc "DIGEST", hexDigits 8 s.digest.toNat]) ∧
      ∀ v ∈ [Verb.lanes, .round, .digest], ∀ f fs, refused v (f :: fs))

/-- POINTS and BANKS answer a run of records from the first number on, stopping after the last of the table, each with its group of
fields; a first number or a length out of range is refused, and a request for the first field from the left that is no number, its
count checked last (R170, R174, R176). -/
def Obligations.ReportsRuns : Prop :=
  (∀ (s : State) (dt : Nat) (l : Lane) (q : Byte) (tf tn : Text) (first number : Nat), s.Expects l q →
    readNumber tf = some first → readNumber tn = some number →
    let points := (List.finRange 64).filter fun p => first ≤ p.val && p.val < first + number
    let banks := (List.finRange 8).filter fun b => first ≤ b.val && b.val < first + number
    let value (x : Option Nat) := match x with | some n => dec n | none => asc "-"
    (first ≤ 63 → 1 ≤ number → number ≤ 8 →
      exec (.points dt l q [tf, tn]) s = .next ((s.taking dt l q).answered l q (requestText q (verbText .points) [tf, tn])
        ([asc "OK", asc "POINTS", dec points.length] ++ points.flatMap fun p =>
          [dec p.val, pointStateText (s.point p).state] ++ match (s.point p).defn with
            | none => [asc "-", asc "-", asc "-", asc "-", asc "-"]
            | some d => [kindText d.kind, value (s.point p).target, value (s.point p).applied, dec (s.point p).splits,
                         value (s.point p).changed]))) ∧
    (63 < first → exec (.points dt l q [tf, tn]) s = .next ((s.taking dt l q).answered l q
      (requestText q (verbText .points) [tf, tn]) [asc "NO", asc "RANGE", asc "FIRST"])) ∧
    (first ≤ 63 → number = 0 ∨ 8 < number → exec (.points dt l q [tf, tn]) s = .next ((s.taking dt l q).answered l q
      (requestText q (verbText .points) [tf, tn]) [asc "NO", asc "RANGE", asc "NUMBER"])) ∧
    (first ≤ 7 → 1 ≤ number → number ≤ 4 →
      exec (.banks dt l q [tf, tn]) s = .next ((s.taking dt l q).answered l q (requestText q (verbText .banks) [tf, tn])
        ([asc "OK", asc "BANKS", dec banks.length] ++ banks.flatMap fun b =>
          [dec b.val, bankStateText (s.bank b).state,
           (match (s.bank b).defn, (s.bank b).activeLink with
             | some _, some .one => asc "1"
             | some _, some .two => asc "2"
             | _, _ => asc "-"),
           markText (s.bank b).links.one.mark, dec (s.bank b).links.one.strikes,
           markText (s.bank b).links.two.mark, dec (s.bank b).links.two.strikes,
           dec ((List.finRange 8).countP fun i => (s.bank b).pendingSet[i]),
           if (s.bank b).resync then asc "SET" else asc "CLEAR",
           match (s.bank b).exchange with
             | none => asc "-"
             | some x => (match x.phase with
                 | .load => asc "APPLY/LOAD/"
                 | .transfer => asc "APPLY/TRANSFER/"
                 | .survey => asc "SURVEY/-/") ++ match x.attempt with | .first => asc "1" | .second => asc "2"]))) ∧
    (7 < first → exec (.banks dt l q [tf, tn]) s = .next ((s.taking dt l q).answered l q
      (requestText q (verbText .banks) [tf, tn]) [asc "NO", asc "RANGE", asc "FIRST"])) ∧
    (first ≤ 7 → number = 0 ∨ 4 < number → exec (.banks dt l q [tf, tn]) s = .next ((s.taking dt l q).answered l q
      (requestText q (verbText .banks) [tf, tn]) [asc "NO", asc "RANGE", asc "NUMBER"]))) ∧
  ∀ (s : State) (dt : Nat) (l : Lane) (q : Byte) (v : Verb), v = .points ∨ v = .banks → s.Expects l q →
    let refused (fields : List Text) (why : String) := exec (requestOf v dt l q fields) s =
      .next ((s.taking dt l q).answered l q (requestText q (verbText v) fields) [asc "NO", asc "FIELD", asc why])
    refused [] "FIRST" ∧
    (∀ tf rest, readNumber tf = none → refused (tf :: rest) "FIRST") ∧
    ∀ tf first, readNumber tf = some first →
      refused [tf] "COUNT" ∧
      (∀ tn rest, readNumber tn = none → refused (tf :: tn :: rest) "NUMBER") ∧
      ∀ tn number f rest, readNumber tn = some number → refused (tf :: tn :: f :: rest) "COUNT"

/-! ## Reset -/

/-- Power-on and a low RESET_N put the part in reset at once, with device time 0, an empty fault ring and every plain output line
low; while the reset lasts no event of a lane link, a driver link, a timer or a power line changes anything; its end leaves every
block at its reset values with the power lines as sampled, and the digest is that of the configuration so reset (R17, R43, R68, R83,
R107, R130, R132, R141, R142, R168). That an UNDEFINED point's split count, which it has not, stands at 0 is the model's choice (log
entry 14); that a link forgets the settle deadline it remembers, the model's own memory for the held-back choice (log entry 7), and
the discard of a late frame (log entry 11), are its readings. -/
def Obligations.ResetValues : Prop :=
  (∀ s : State, exec .resetNLow s = exec .powerOnReset s ∧ ∃ t : State, exec .powerOnReset s = .next t ∧
    t.inReset = true ∧ t.clock = ⟨0#32, 0⟩ ∧ t.log.ring = [] ∧ t.pending = s.pending ∧ t.runningLine = false ∧
    (∀ l, t.ctlLine l = false ∧ t.attnLine l = false ∧ (t.port l).sending = none) ∧ (∀ b, t.enLine b = false) ∧
    ∀ k, (t.link k).transaction = none) ∧
  (∀ (s : State) (c : Instr), s.inReset = true → elapsed c ≠ none → exec c s = .next s) ∧
  ∀ (s : State) (pg : PerLane Bool), s.inReset = true →
    ∃ t : State, exec (.resetEnd pg) s = .next t ∧ t.inReset = false ∧ t.clock = ⟨0#32, 0⟩ ∧ t.pending = s.pending ∧
      t.mode = .configure ∧ t.session = none ∧ t.idle = none ∧ t.round = 0 ∧ t.collecting = none ∧ t.summary = none ∧
      t.log = { ring := [], next := 1#32, cursors := ⟨1#32, 1#32, 1#32⟩, gaps := ⟨0, 0, 0⟩ } ∧
      t.settings = {
        roundtime := 4, quiet := 20, hold := 60, flap := 450, strikes := 3, decay := 16, probation := 8,
        probfail := 3, suspend := 500, susplimit := 3, replytime := 10, linkstrikes := 3, linkdecay := 32, settle := 5,
        survey := 50, session := 2000 } ∧
      t.digest = 0x7CE3A8F2#32 ∧ t.digest = crc32 (configBytes t.points t.banks t.settings) ∧
      (∀ l, t.lane l = {
        role := .absent, strikes := 0, streak := 0, suspensions := 0, suspendedUntil := none,
        probClean := 0, probFails := 0, quiet := none, power := if pg.get l then .high else .low, confirm := none,
        lastReturn := none, holdDeadline := none, roleBefore := none, carriedStrikes := none, carriedStreak := none }) ∧
      (∀ l, t.port l = {
        assembling := [], dropping := false, queue := [], sending := none, expected := none,
        stored := none }) ∧
      (∀ p, t.point p = { defn := none, target := none, applied := none, state := .undefined, splits := 0, changed := none }) ∧
      (∀ b, t.bank b = {
        defn := none, state := .unused, activeLink := some .one, links := ⟨⟨.good, 0, 0⟩, ⟨.good, 0, 0⟩⟩,
        tag := 0#8, pendingSet := Vector.replicate 8 false, resync := false, settle := none, surveyDue := none,
        exchange := none, enable := false }) ∧
      ∀ k, t.link k = { pointer := 7, transaction := none, discardNext := false, settledAt := none }

/-! ## Encodings -/

/-- Every driver frame with an address up to 31, at most 8 entries and values up to 4095 is read back from its bytes as it was: no
bit of a frame is dropped (R183). -/
def Obligations.FrameRoundTrip : Prop :=
  ∀ f : Frame, f.address ≤ 31 → f.entries.length ≤ 8 → (∀ y ∈ f.entries, y.value ≤ 4095) →
    (frameBytes f).length = 6 + 2 * f.entries.length ∧ readFrame ((frameBytes f).map (RxByte.mk · false)) = some f

/-! ## Laws that every step keeps -/

/-- Every step keeps the Fault Log well formed: at most 64 records with consecutive serials up to the next one, every cursor the
serial of a held record or the next serial, every gap count at most 255 (R142). -/
def Obligations.LogKept : Prop := ∀ s t : State, s.log.Ok → step s = .next t → t.log.Ok

/-- Every step keeps the digest that of the definitions and settings in force (R132). -/
def Obligations.DigestKept : Prop := ∀ s t : State, s.DigestOk → step s = .next t → t.DigestOk

/-- Every step keeps the roles fitting the mode, one lane in control, RUN with a lane that votes or is HELD, and the lane records
fitting their roles (R19, R45, R58, R63, R66, R76). -/
def Obligations.RolesKept : Prop := ∀ s t : State, s.RolesOk → step s = .next t → t.RolesOk

/-- Every step keeps the collecting round: stages and seals of seated lanes alone, values in range, the timer running exactly while
some lane has sealed, and never a ready round left open (R18, R19, R25, R27). -/
def Obligations.RoundKept : Prop := ∀ s t : State, s.RolesOk → s.RoundOk → step s = .next t → t.RoundOk

/-- Every step keeps the bank records fitting their states and the mode, and each driver link carrying exactly the exchange of one
bank. An idle link leaves no ACTIVE bank with pending slots or resync waiting: it has started the exchange (R84, R89, R92, R95,
R108). Left out there are a link with a bank in its settle period and one with a survey due time that falls together with another,
because such a link may hold its choice back: the model's reading (log entry 7). -/
def Obligations.BanksKept : Prop := ∀ s t : State, s.RolesOk → s.BanksOk → step s = .next t → t.BanksOk

/-- Every step keeps every counter below the setting that limits it (R44, R51, R84, R102, R103, R130). -/
def Obligations.CountsKept : Prop :=
  ∀ s t : State, s.RolesOk → s.BanksOk → s.CountsOk → step s = .next t → t.CountsOk

/-- Every step keeps every target and applied value in its point's range and every point's state fitting its bank, its pending slot
and its exchange: no PENDING point is without an exchange to come (R3, R9, R12, R15, R104). That an UNDEFINED point's split count,
which it has not, stands at 0 is the model's choice (log entry 14). -/
def Obligations.PointsKept : Prop :=
  ∀ s t : State, s.RolesOk → s.BanksOk → s.RoundOk → s.PointsOk → step s = .next t → t.PointsOk

/-- The state right after a reset keeps all these laws, whatever the reset has sampled of each power line, HIGH or LOW (R17, R43,
R68, R83, R107, R132, R142). That State.reset is the one with all three sampled HIGH is the model's choice (log entry 5). -/
def Obligations.ResetHoldsLaws : Prop :=
  State.reset = State.afterReset ⟨.high, .high, .high⟩ ∧
  ∀ power : PerLane PowerLine, (∀ l, power.get l ≠ .confirming) →
    let s := State.afterReset power
    s.log.Ok ∧ s.DigestOk ∧ s.RolesOk ∧ s.RoundOk ∧ s.BanksOk ∧ s.CountsOk ∧ s.PointsOk
end

