-- ==== Sys2Proof/Laws/State.lean ====
section
/-! SUPPORT. One lemma per field per named update of State, and how the containers and the record accessors meet the updates. -/

namespace Sys2Proof

section PerLane
variable {α : Type} (x : PerLane α) (l m : Lane) (v w : α)

@[simp] theorem PerLane.get_set_self : (x.set l v).get l = v := by cases l <;> rfl
theorem PerLane.get_set_ne (h : m ≠ l) : (x.set l v).get m = x.get m := by cases l <;> cases m <;> simp_all [PerLane.set, PerLane.get]
theorem PerLane.get_set : (x.set l v).get m = if m = l then v else x.get m := by cases l <;> cases m <;> rfl
@[simp] theorem PerLane.set_set : (x.set l v).set l w = x.set l w := by cases l <;> rfl
@[simp] theorem PerLane.set_get : x.set l (x.get l) = x := by cases l <;> rfl
@[simp] theorem PerLane.get_ofFn (f : Lane → α) : (PerLane.ofFn f).get l = f l := by cases l <;> rfl
theorem PerLane.ext_get {x y : PerLane α} (h : ∀ l, x.get l = y.get l) : x = y :=
  PerLane.ext (h .a) (h .b) (h .c)

end PerLane

section PerLink
variable {α : Type} (x : PerLink α) (k j : LinkNo) (v w : α)

@[simp] theorem PerLink.get_set_self : (x.set k v).get k = v := by cases k <;> rfl
theorem PerLink.get_set_ne (h : j ≠ k) : (x.set k v).get j = x.get j := by cases k <;> cases j <;> simp_all [PerLink.set, PerLink.get]
theorem PerLink.get_set : (x.set k v).get j = if j = k then v else x.get j := by cases k <;> cases j <;> rfl
@[simp] theorem PerLink.set_set : (x.set k v).set k w = x.set k w := by cases k <;> rfl
@[simp] theorem PerLink.set_get : x.set k (x.get k) = x := by cases k <;> rfl
@[simp] theorem PerLink.get_ofFn (f : LinkNo → α) : (PerLink.ofFn f).get k = f k := by cases k <;> rfl
theorem PerLink.ext_get {x y : PerLink α} (h : ∀ k, x.get k = y.get k) : x = y :=
  PerLink.ext (h .one) (h .two)

end PerLink

@[simp] theorem LinkNo.other_other (k : LinkNo) : k.other.other = k := by cases k <;> rfl
@[simp] theorem LinkNo.other_ne (k : LinkNo) : k.other ≠ k := by cases k <;> decide
@[simp] theorem bankOf_pointAt (b : BankNo) (k : SlotNo) : bankOf (pointAt b k) = b := by
  ext; simp [bankOf, pointAt]; omega
@[simp] theorem slotOf_pointAt (b : BankNo) (k : SlotNo) : slotOf (pointAt b k) = k := by
  ext; simp [slotOf, pointAt]
@[simp] theorem pointAt_bankOf_slotOf (p : PointNo) : pointAt (bankOf p) (slotOf p) = p := by
  ext; simp [bankOf, slotOf, pointAt]; omega

namespace Machine
variable (s : State)

/-! ### advance -/

@[simp] theorem State.advance_clock (dt : Nat) : (s.advance dt).clock = s.clock.after dt := rfl
@[simp] theorem State.advance_inReset (dt : Nat) : (s.advance dt).inReset = s.inReset := rfl
@[simp] theorem State.advance_mode (dt : Nat) : (s.advance dt).mode = s.mode := rfl
@[simp] theorem State.advance_session (dt : Nat) : (s.advance dt).session = s.session := rfl
@[simp] theorem State.advance_idle (dt : Nat) : (s.advance dt).idle = s.idle := rfl
@[simp] theorem State.advance_settings (dt : Nat) : (s.advance dt).settings = s.settings := rfl
@[simp] theorem State.advance_digest (dt : Nat) : (s.advance dt).digest = s.digest := rfl
@[simp] theorem State.advance_log (dt : Nat) : (s.advance dt).log = s.log := rfl
@[simp] theorem State.advance_lanes (dt : Nat) : (s.advance dt).lanes = s.lanes := rfl
@[simp] theorem State.advance_ports (dt : Nat) : (s.advance dt).ports = s.ports := rfl
@[simp] theorem State.advance_round (dt : Nat) : (s.advance dt).round = s.round := rfl
@[simp] theorem State.advance_collecting (dt : Nat) : (s.advance dt).collecting = s.collecting := rfl
@[simp] theorem State.advance_summary (dt : Nat) : (s.advance dt).summary = s.summary := rfl
@[simp] theorem State.advance_points (dt : Nat) : (s.advance dt).points = s.points := rfl
@[simp] theorem State.advance_banks (dt : Nat) : (s.advance dt).banks = s.banks := rfl
@[simp] theorem State.advance_links (dt : Nat) : (s.advance dt).links = s.links := rfl
@[simp] theorem State.advance_pending (dt : Nat) : (s.advance dt).pending = s.pending := rfl

/-! ### setLane -/

@[simp] theorem State.setLane_clock (l : Lane) (r : LaneRec) : (s.setLane l r).clock = s.clock := rfl
@[simp] theorem State.setLane_inReset (l : Lane) (r : LaneRec) : (s.setLane l r).inReset = s.inReset := rfl
@[simp] theorem State.setLane_mode (l : Lane) (r : LaneRec) : (s.setLane l r).mode = s.mode := rfl
@[simp] theorem State.setLane_session (l : Lane) (r : LaneRec) : (s.setLane l r).session = s.session := rfl
@[simp] theorem State.setLane_idle (l : Lane) (r : LaneRec) : (s.setLane l r).idle = s.idle := rfl
@[simp] theorem State.setLane_settings (l : Lane) (r : LaneRec) : (s.setLane l r).settings = s.settings := rfl
@[simp] theorem State.setLane_digest (l : Lane) (r : LaneRec) : (s.setLane l r).digest = s.digest := rfl
@[simp] theorem State.setLane_log (l : Lane) (r : LaneRec) : (s.setLane l r).log = s.log := rfl
@[simp] theorem State.setLane_lanes (l : Lane) (r : LaneRec) : (s.setLane l r).lanes = s.lanes.set l r := rfl
@[simp] theorem State.setLane_ports (l : Lane) (r : LaneRec) : (s.setLane l r).ports = s.ports := rfl
@[simp] theorem State.setLane_round (l : Lane) (r : LaneRec) : (s.setLane l r).round = s.round := rfl
@[simp] theorem State.setLane_collecting (l : Lane) (r : LaneRec) : (s.setLane l r).collecting = s.collecting := rfl
@[simp] theorem State.setLane_summary (l : Lane) (r : LaneRec) : (s.setLane l r).summary = s.summary := rfl
@[simp] theorem State.setLane_points (l : Lane) (r : LaneRec) : (s.setLane l r).points = s.points := rfl
@[simp] theorem State.setLane_banks (l : Lane) (r : LaneRec) : (s.setLane l r).banks = s.banks := rfl
@[simp] theorem State.setLane_links (l : Lane) (r : LaneRec) : (s.setLane l r).links = s.links := rfl
@[simp] theorem State.setLane_pending (l : Lane) (r : LaneRec) : (s.setLane l r).pending = s.pending := rfl

/-! ### setPort -/

@[simp] theorem State.setPort_clock (l : Lane) (r : LanePort) : (s.setPort l r).clock = s.clock := rfl
@[simp] theorem State.setPort_inReset (l : Lane) (r : LanePort) : (s.setPort l r).inReset = s.inReset := rfl
@[simp] theorem State.setPort_mode (l : Lane) (r : LanePort) : (s.setPort l r).mode = s.mode := rfl
@[simp] theorem State.setPort_session (l : Lane) (r : LanePort) : (s.setPort l r).session = s.session := rfl
@[simp] theorem State.setPort_idle (l : Lane) (r : LanePort) : (s.setPort l r).idle = s.idle := rfl
@[simp] theorem State.setPort_settings (l : Lane) (r : LanePort) : (s.setPort l r).settings = s.settings := rfl
@[simp] theorem State.setPort_digest (l : Lane) (r : LanePort) : (s.setPort l r).digest = s.digest := rfl
@[simp] theorem State.setPort_log (l : Lane) (r : LanePort) : (s.setPort l r).log = s.log := rfl
@[simp] theorem State.setPort_lanes (l : Lane) (r : LanePort) : (s.setPort l r).lanes = s.lanes := rfl
@[simp] theorem State.setPort_ports (l : Lane) (r : LanePort) : (s.setPort l r).ports = s.ports.set l r := rfl
@[simp] theorem State.setPort_round (l : Lane) (r : LanePort) : (s.setPort l r).round = s.round := rfl
@[simp] theorem State.setPort_collecting (l : Lane) (r : LanePort) : (s.setPort l r).collecting = s.collecting := rfl
@[simp] theorem State.setPort_summary (l : Lane) (r : LanePort) : (s.setPort l r).summary = s.summary := rfl
@[simp] theorem State.setPort_points (l : Lane) (r : LanePort) : (s.setPort l r).points = s.points := rfl
@[simp] theorem State.setPort_banks (l : Lane) (r : LanePort) : (s.setPort l r).banks = s.banks := rfl
@[simp] theorem State.setPort_links (l : Lane) (r : LanePort) : (s.setPort l r).links = s.links := rfl
@[simp] theorem State.setPort_pending (l : Lane) (r : LanePort) : (s.setPort l r).pending = s.pending := rfl

/-! ### setLink -/

@[simp] theorem State.setLink_clock (k : LinkNo) (r : LinkCtl) : (s.setLink k r).clock = s.clock := rfl
@[simp] theorem State.setLink_inReset (k : LinkNo) (r : LinkCtl) : (s.setLink k r).inReset = s.inReset := rfl
@[simp] theorem State.setLink_mode (k : LinkNo) (r : LinkCtl) : (s.setLink k r).mode = s.mode := rfl
@[simp] theorem State.setLink_session (k : LinkNo) (r : LinkCtl) : (s.setLink k r).session = s.session := rfl
@[simp] theorem State.setLink_idle (k : LinkNo) (r : LinkCtl) : (s.setLink k r).idle = s.idle := rfl
@[simp] theorem State.setLink_settings (k : LinkNo) (r : LinkCtl) : (s.setLink k r).settings = s.settings := rfl
@[simp] theorem State.setLink_digest (k : LinkNo) (r : LinkCtl) : (s.setLink k r).digest = s.digest := rfl
@[simp] theorem State.setLink_log (k : LinkNo) (r : LinkCtl) : (s.setLink k r).log = s.log := rfl
@[simp] theorem State.setLink_lanes (k : LinkNo) (r : LinkCtl) : (s.setLink k r).lanes = s.lanes := rfl
@[simp] theorem State.setLink_ports (k : LinkNo) (r : LinkCtl) : (s.setLink k r).ports = s.ports := rfl
@[simp] theorem State.setLink_round (k : LinkNo) (r : LinkCtl) : (s.setLink k r).round = s.round := rfl
@[simp] theorem State.setLink_collecting (k : LinkNo) (r : LinkCtl) : (s.setLink k r).collecting = s.collecting := rfl
@[simp] theorem State.setLink_summary (k : LinkNo) (r : LinkCtl) : (s.setLink k r).summary = s.summary := rfl
@[simp] theorem State.setLink_points (k : LinkNo) (r : LinkCtl) : (s.setLink k r).points = s.points := rfl
@[simp] theorem State.setLink_banks (k : LinkNo) (r : LinkCtl) : (s.setLink k r).banks = s.banks := rfl
@[simp] theorem State.setLink_links (k : LinkNo) (r : LinkCtl) : (s.setLink k r).links = s.links.set k r := rfl
@[simp] theorem State.setLink_pending (k : LinkNo) (r : LinkCtl) : (s.setLink k r).pending = s.pending := rfl

/-! ### setBank -/

@[simp] theorem State.setBank_clock (b : BankNo) (r : BankRec) : (s.setBank b r).clock = s.clock := rfl
@[simp] theorem State.setBank_inReset (b : BankNo) (r : BankRec) : (s.setBank b r).inReset = s.inReset := rfl
@[simp] theorem State.setBank_mode (b : BankNo) (r : BankRec) : (s.setBank b r).mode = s.mode := rfl
@[simp] theorem State.setBank_session (b : BankNo) (r : BankRec) : (s.setBank b r).session = s.session := rfl
@[simp] theorem State.setBank_idle (b : BankNo) (r : BankRec) : (s.setBank b r).idle = s.idle := rfl
@[simp] theorem State.setBank_settings (b : BankNo) (r : BankRec) : (s.setBank b r).settings = s.settings := rfl
@[simp] theorem State.setBank_digest (b : BankNo) (r : BankRec) : (s.setBank b r).digest = s.digest := rfl
@[simp] theorem State.setBank_log (b : BankNo) (r : BankRec) : (s.setBank b r).log = s.log := rfl
@[simp] theorem State.setBank_lanes (b : BankNo) (r : BankRec) : (s.setBank b r).lanes = s.lanes := rfl
@[simp] theorem State.setBank_ports (b : BankNo) (r : BankRec) : (s.setBank b r).ports = s.ports := rfl
@[simp] theorem State.setBank_round (b : BankNo) (r : BankRec) : (s.setBank b r).round = s.round := rfl
@[simp] theorem State.setBank_collecting (b : BankNo) (r : BankRec) : (s.setBank b r).collecting = s.collecting := rfl
@[simp] theorem State.setBank_summary (b : BankNo) (r : BankRec) : (s.setBank b r).summary = s.summary := rfl
@[simp] theorem State.setBank_points (b : BankNo) (r : BankRec) : (s.setBank b r).points = s.points := rfl
@[simp] theorem State.setBank_banks (b : BankNo) (r : BankRec) : (s.setBank b r).banks = s.banks.set b r := rfl
@[simp] theorem State.setBank_links (b : BankNo) (r : BankRec) : (s.setBank b r).links = s.links := rfl
@[simp] theorem State.setBank_pending (b : BankNo) (r : BankRec) : (s.setBank b r).pending = s.pending := rfl

/-! ### setPoint -/

@[simp] theorem State.setPoint_clock (p : PointNo) (r : PointRec) : (s.setPoint p r).clock = s.clock := rfl
@[simp] theorem State.setPoint_inReset (p : PointNo) (r : PointRec) : (s.setPoint p r).inReset = s.inReset := rfl
@[simp] theorem State.setPoint_mode (p : PointNo) (r : PointRec) : (s.setPoint p r).mode = s.mode := rfl
@[simp] theorem State.setPoint_session (p : PointNo) (r : PointRec) : (s.setPoint p r).session = s.session := rfl
@[simp] theorem State.setPoint_idle (p : PointNo) (r : PointRec) : (s.setPoint p r).idle = s.idle := rfl
@[simp] theorem State.setPoint_settings (p : PointNo) (r : PointRec) : (s.setPoint p r).settings = s.settings := rfl
@[simp] theorem State.setPoint_digest (p : PointNo) (r : PointRec) : (s.setPoint p r).digest = s.digest := rfl
@[simp] theorem State.setPoint_log (p : PointNo) (r : PointRec) : (s.setPoint p r).log = s.log := rfl
@[simp] theorem State.setPoint_lanes (p : PointNo) (r : PointRec) : (s.setPoint p r).lanes = s.lanes := rfl
@[simp] theorem State.setPoint_ports (p : PointNo) (r : PointRec) : (s.setPoint p r).ports = s.ports := rfl
@[simp] theorem State.setPoint_round (p : PointNo) (r : PointRec) : (s.setPoint p r).round = s.round := rfl
@[simp] theorem State.setPoint_collecting (p : PointNo) (r : PointRec) : (s.setPoint p r).collecting = s.collecting := rfl
@[simp] theorem State.setPoint_summary (p : PointNo) (r : PointRec) : (s.setPoint p r).summary = s.summary := rfl
@[simp] theorem State.setPoint_points (p : PointNo) (r : PointRec) : (s.setPoint p r).points = s.points.set p r := rfl
@[simp] theorem State.setPoint_banks (p : PointNo) (r : PointRec) : (s.setPoint p r).banks = s.banks := rfl
@[simp] theorem State.setPoint_links (p : PointNo) (r : PointRec) : (s.setPoint p r).links = s.links := rfl
@[simp] theorem State.setPoint_pending (p : PointNo) (r : PointRec) : (s.setPoint p r).pending = s.pending := rfl

/-! ### updatePoints -/

@[simp] theorem State.updatePoints_clock (f : PointNo → PointRec → Bool → PointRec × Bool) : (s.updatePoints f).clock = s.clock := by simp only [State.updatePoints]
@[simp] theorem State.updatePoints_inReset (f : PointNo → PointRec → Bool → PointRec × Bool) : (s.updatePoints f).inReset = s.inReset := by simp only [State.updatePoints]
@[simp] theorem State.updatePoints_mode (f : PointNo → PointRec → Bool → PointRec × Bool) : (s.updatePoints f).mode = s.mode := by simp only [State.updatePoints]
@[simp] theorem State.updatePoints_session (f : PointNo → PointRec → Bool → PointRec × Bool) : (s.updatePoints f).session = s.session := by simp only [State.updatePoints]
@[simp] theorem State.updatePoints_idle (f : PointNo → PointRec → Bool → PointRec × Bool) : (s.updatePoints f).idle = s.idle := by simp only [State.updatePoints]
@[simp] theorem State.updatePoints_settings (f : PointNo → PointRec → Bool → PointRec × Bool) : (s.updatePoints f).settings = s.settings := by simp only [State.updatePoints]
@[simp] theorem State.updatePoints_digest (f : PointNo → PointRec → Bool → PointRec × Bool) : (s.updatePoints f).digest = s.digest := by simp only [State.updatePoints]
@[simp] theorem State.updatePoints_log (f : PointNo → PointRec → Bool → PointRec × Bool) : (s.updatePoints f).log = s.log := by simp only [State.updatePoints]
@[simp] theorem State.updatePoints_lanes (f : PointNo → PointRec → Bool → PointRec × Bool) : (s.updatePoints f).lanes = s.lanes := by simp only [State.updatePoints]
@[simp] theorem State.updatePoints_ports (f : PointNo → PointRec → Bool → PointRec × Bool) : (s.updatePoints f).ports = s.ports := by simp only [State.updatePoints]
@[simp] theorem State.updatePoints_round (f : PointNo → PointRec → Bool → PointRec × Bool) : (s.updatePoints f).round = s.round := by simp only [State.updatePoints]
@[simp] theorem State.updatePoints_collecting (f : PointNo → PointRec → Bool → PointRec × Bool) : (s.updatePoints f).collecting = s.collecting := by simp only [State.updatePoints]
@[simp] theorem State.updatePoints_summary (f : PointNo → PointRec → Bool → PointRec × Bool) : (s.updatePoints f).summary = s.summary := by simp only [State.updatePoints]
@[simp] theorem State.updatePoints_links (f : PointNo → PointRec → Bool → PointRec × Bool) : (s.updatePoints f).links = s.links := by simp only [State.updatePoints]
@[simp] theorem State.updatePoints_pending (f : PointNo → PointRec → Bool → PointRec × Bool) : (s.updatePoints f).pending = s.pending := by simp only [State.updatePoints]

/-! ### append -/

@[simp] theorem State.append_clock (e : Event) : (s.append e).clock = s.clock := rfl
@[simp] theorem State.append_inReset (e : Event) : (s.append e).inReset = s.inReset := rfl
@[simp] theorem State.append_mode (e : Event) : (s.append e).mode = s.mode := rfl
@[simp] theorem State.append_session (e : Event) : (s.append e).session = s.session := rfl
@[simp] theorem State.append_idle (e : Event) : (s.append e).idle = s.idle := rfl
@[simp] theorem State.append_settings (e : Event) : (s.append e).settings = s.settings := rfl
@[simp] theorem State.append_digest (e : Event) : (s.append e).digest = s.digest := rfl
@[simp] theorem State.append_log (e : Event) : (s.append e).log = s.log.append s.now e := rfl
@[simp] theorem State.append_lanes (e : Event) : (s.append e).lanes = s.lanes := rfl
@[simp] theorem State.append_ports (e : Event) : (s.append e).ports = s.ports := rfl
@[simp] theorem State.append_round (e : Event) : (s.append e).round = s.round := rfl
@[simp] theorem State.append_collecting (e : Event) : (s.append e).collecting = s.collecting := rfl
@[simp] theorem State.append_summary (e : Event) : (s.append e).summary = s.summary := rfl
@[simp] theorem State.append_points (e : Event) : (s.append e).points = s.points := rfl
@[simp] theorem State.append_banks (e : Event) : (s.append e).banks = s.banks := rfl
@[simp] theorem State.append_links (e : Event) : (s.append e).links = s.links := rfl
@[simp] theorem State.append_pending (e : Event) : (s.append e).pending = s.pending := rfl

/-! ### withdraw -/

@[simp] theorem State.withdraw_clock (l : Lane) : (s.withdraw l).clock = s.clock := rfl
@[simp] theorem State.withdraw_inReset (l : Lane) : (s.withdraw l).inReset = s.inReset := rfl
@[simp] theorem State.withdraw_mode (l : Lane) : (s.withdraw l).mode = s.mode := rfl
@[simp] theorem State.withdraw_session (l : Lane) : (s.withdraw l).session = s.session := rfl
@[simp] theorem State.withdraw_idle (l : Lane) : (s.withdraw l).idle = s.idle := rfl
@[simp] theorem State.withdraw_settings (l : Lane) : (s.withdraw l).settings = s.settings := rfl
@[simp] theorem State.withdraw_digest (l : Lane) : (s.withdraw l).digest = s.digest := rfl
@[simp] theorem State.withdraw_log (l : Lane) : (s.withdraw l).log = s.log := rfl
@[simp] theorem State.withdraw_lanes (l : Lane) : (s.withdraw l).lanes = s.lanes := rfl
@[simp] theorem State.withdraw_ports (l : Lane) : (s.withdraw l).ports = s.ports := rfl
@[simp] theorem State.withdraw_round (l : Lane) : (s.withdraw l).round = s.round := rfl
@[simp] theorem State.withdraw_collecting (l : Lane) : (s.withdraw l).collecting = s.collecting.map fun c => c.withdraw l := rfl
@[simp] theorem State.withdraw_summary (l : Lane) : (s.withdraw l).summary = s.summary := rfl
@[simp] theorem State.withdraw_points (l : Lane) : (s.withdraw l).points = s.points := rfl
@[simp] theorem State.withdraw_banks (l : Lane) : (s.withdraw l).banks = s.banks := rfl
@[simp] theorem State.withdraw_links (l : Lane) : (s.withdraw l).links = s.links := rfl
@[simp] theorem State.withdraw_pending (l : Lane) : (s.withdraw l).pending = s.pending := rfl

/-! ### recomputeDigest -/

@[simp] theorem State.recomputeDigest_clock : (s.recomputeDigest).clock = s.clock := rfl
@[simp] theorem State.recomputeDigest_inReset : (s.recomputeDigest).inReset = s.inReset := rfl
@[simp] theorem State.recomputeDigest_mode : (s.recomputeDigest).mode = s.mode := rfl
@[simp] theorem State.recomputeDigest_session : (s.recomputeDigest).session = s.session := rfl
@[simp] theorem State.recomputeDigest_idle : (s.recomputeDigest).idle = s.idle := rfl
@[simp] theorem State.recomputeDigest_settings : (s.recomputeDigest).settings = s.settings := rfl
@[simp] theorem State.recomputeDigest_digest : (s.recomputeDigest).digest = s.configDigest := rfl
@[simp] theorem State.recomputeDigest_log : (s.recomputeDigest).log = s.log := rfl
@[simp] theorem State.recomputeDigest_lanes : (s.recomputeDigest).lanes = s.lanes := rfl
@[simp] theorem State.recomputeDigest_ports : (s.recomputeDigest).ports = s.ports := rfl
@[simp] theorem State.recomputeDigest_round : (s.recomputeDigest).round = s.round := rfl
@[simp] theorem State.recomputeDigest_collecting : (s.recomputeDigest).collecting = s.collecting := rfl
@[simp] theorem State.recomputeDigest_summary : (s.recomputeDigest).summary = s.summary := rfl
@[simp] theorem State.recomputeDigest_points : (s.recomputeDigest).points = s.points := rfl
@[simp] theorem State.recomputeDigest_banks : (s.recomputeDigest).banks = s.banks := rfl
@[simp] theorem State.recomputeDigest_links : (s.recomputeDigest).links = s.links := rfl
@[simp] theorem State.recomputeDigest_pending : (s.recomputeDigest).pending = s.pending := rfl

/-! ### releaseSession -/

@[simp] theorem State.releaseSession_clock : (s.releaseSession).clock = s.clock := rfl
@[simp] theorem State.releaseSession_inReset : (s.releaseSession).inReset = s.inReset := rfl
@[simp] theorem State.releaseSession_mode : (s.releaseSession).mode = s.mode := rfl
@[simp] theorem State.releaseSession_session : (s.releaseSession).session = none := rfl
@[simp] theorem State.releaseSession_idle : (s.releaseSession).idle = none := rfl
@[simp] theorem State.releaseSession_settings : (s.releaseSession).settings = s.settings := rfl
@[simp] theorem State.releaseSession_digest : (s.releaseSession).digest = s.digest := rfl
@[simp] theorem State.releaseSession_log : (s.releaseSession).log = s.log := rfl
@[simp] theorem State.releaseSession_lanes : (s.releaseSession).lanes = s.lanes := rfl
@[simp] theorem State.releaseSession_ports : (s.releaseSession).ports = s.ports := rfl
@[simp] theorem State.releaseSession_round : (s.releaseSession).round = s.round := rfl
@[simp] theorem State.releaseSession_collecting : (s.releaseSession).collecting = s.collecting := rfl
@[simp] theorem State.releaseSession_summary : (s.releaseSession).summary = s.summary := rfl
@[simp] theorem State.releaseSession_points : (s.releaseSession).points = s.points := rfl
@[simp] theorem State.releaseSession_banks : (s.releaseSession).banks = s.banks := rfl
@[simp] theorem State.releaseSession_links : (s.releaseSession).links = s.links := rfl
@[simp] theorem State.releaseSession_pending : (s.releaseSession).pending = s.pending := rfl

/-! ### holdSession -/

@[simp] theorem State.holdSession_clock (l : Lane) : (s.holdSession l).clock = s.clock := rfl
@[simp] theorem State.holdSession_inReset (l : Lane) : (s.holdSession l).inReset = s.inReset := rfl
@[simp] theorem State.holdSession_mode (l : Lane) : (s.holdSession l).mode = s.mode := rfl
@[simp] theorem State.holdSession_session (l : Lane) : (s.holdSession l).session = some l := rfl
@[simp] theorem State.holdSession_idle (l : Lane) : (s.holdSession l).idle = some (s.expiry s.settings.session) := rfl
@[simp] theorem State.holdSession_settings (l : Lane) : (s.holdSession l).settings = s.settings := rfl
@[simp] theorem State.holdSession_digest (l : Lane) : (s.holdSession l).digest = s.digest := rfl
@[simp] theorem State.holdSession_log (l : Lane) : (s.holdSession l).log = s.log := rfl
@[simp] theorem State.holdSession_lanes (l : Lane) : (s.holdSession l).lanes = s.lanes := rfl
@[simp] theorem State.holdSession_ports (l : Lane) : (s.holdSession l).ports = s.ports := rfl
@[simp] theorem State.holdSession_round (l : Lane) : (s.holdSession l).round = s.round := rfl
@[simp] theorem State.holdSession_collecting (l : Lane) : (s.holdSession l).collecting = s.collecting := rfl
@[simp] theorem State.holdSession_summary (l : Lane) : (s.holdSession l).summary = s.summary := rfl
@[simp] theorem State.holdSession_points (l : Lane) : (s.holdSession l).points = s.points := rfl
@[simp] theorem State.holdSession_banks (l : Lane) : (s.holdSession l).banks = s.banks := rfl
@[simp] theorem State.holdSession_links (l : Lane) : (s.holdSession l).links = s.links := rfl
@[simp] theorem State.holdSession_pending (l : Lane) : (s.holdSession l).pending = s.pending := rfl

/-! ### The accessors -/

theorem State.lane_mk (s : State) (l : Lane) : s.lanes.get l = s.lane l := rfl
theorem State.port_mk (s : State) (l : Lane) : s.ports.get l = s.port l := rfl
theorem State.link_mk (s : State) (k : LinkNo) : s.links.get k = s.link k := rfl

theorem State.setLane_lane (l m : Lane) (r : LaneRec) : (s.setLane l r).lane m = if m = l then r else s.lane m :=
  PerLane.get_set ..
@[simp] theorem State.setLane_lane_self (l : Lane) (r : LaneRec) : (s.setLane l r).lane l = r := PerLane.get_set_self ..
theorem State.setPort_port (l m : Lane) (r : LanePort) : (s.setPort l r).port m = if m = l then r else s.port m :=
  PerLane.get_set ..
@[simp] theorem State.setPort_port_self (l : Lane) (r : LanePort) : (s.setPort l r).port l = r := PerLane.get_set_self ..
theorem State.setLink_link (k j : LinkNo) (r : LinkCtl) : (s.setLink k r).link j = if j = k then r else s.link j :=
  PerLink.get_set ..
@[simp] theorem State.setLink_link_self (k : LinkNo) (r : LinkCtl) : (s.setLink k r).link k = r := PerLink.get_set_self ..
theorem State.setBank_bank (b c : BankNo) (r : BankRec) : (s.setBank b r).bank c = if c = b then r else s.bank c := by
  simp [State.bank, State.setBank, Vector.getElem_set, Fin.ext_iff, eq_comm]
@[simp] theorem State.setBank_bank_self (b : BankNo) (r : BankRec) : (s.setBank b r).bank b = r := by
  simp [State.setBank_bank]
theorem State.setPoint_point (p q : PointNo) (r : PointRec) : (s.setPoint p r).point q = if q = p then r else s.point q := by
  simp [State.point, State.setPoint, Vector.getElem_set, Fin.ext_iff, eq_comm]
@[simp] theorem State.setPoint_point_self (p : PointNo) (r : PointRec) : (s.setPoint p r).point p = r := by
  simp [State.setPoint_point]

theorem State.setLane_role (l m : Lane) (r : LaneRec) : (s.setLane l r).role m = if m = l then r.role else s.role m := by
  simp only [State.role, State.setLane_lane]; split <;> rfl
@[simp] theorem State.setLane_role_self (l : Lane) (r : LaneRec) : (s.setLane l r).role l = r.role := by
  simp [State.role]

@[simp] theorem State.setLane_setLane (l : Lane) (r q : LaneRec) : (s.setLane l r).setLane l q = s.setLane l q := by
  simp [State.setLane]
@[simp] theorem State.setPort_setPort (l : Lane) (r q : LanePort) : (s.setPort l r).setPort l q = s.setPort l q := by
  simp [State.setPort]
@[simp] theorem State.setLink_setLink (k : LinkNo) (r q : LinkCtl) : (s.setLink k r).setLink k q = s.setLink k q := by
  simp [State.setLink]
@[simp] theorem State.setBank_setBank (b : BankNo) (r q : BankRec) : (s.setBank b r).setBank b q = s.setBank b q := by
  simp [State.setBank]
@[simp] theorem State.setPoint_setPoint (p : PointNo) (r q : PointRec) : (s.setPoint p r).setPoint p q = s.setPoint p q := by
  simp [State.setPoint]

/-- What updatePoints leaves of a point record. -/
@[simp] theorem State.updatePoints_point (f : PointNo → PointRec → Bool → PointRec × Bool) (p : PointNo) :
    (s.updatePoints f).point p = (f p (s.point p) (s.slotPending p)).1 := by
  simp [State.updatePoints, State.point]

/-- What updatePoints leaves of a slot's membership in the pending set. -/
@[simp] theorem State.updatePoints_slotPending (f : PointNo → PointRec → Bool → PointRec × Bool) (p : PointNo) :
    (s.updatePoints f).slotPending p = (f p (s.point p) (s.slotPending p)).2 := by
  simp [State.updatePoints, State.slotPending, State.bank, State.point]

/-- updatePoints changes nothing of a bank record but its pending set. -/
theorem State.updatePoints_bank (f : PointNo → PointRec → Bool → PointRec × Bool) (b : BankNo) :
    (s.updatePoints f).bank b = { s.bank b with
      pendingSet := Vector.ofFn fun k => (f (pointAt b k) (s.point (pointAt b k)) (s.bank b).pendingSet[k]).2 } := by
  simp [State.updatePoints, State.bank]

@[simp] theorem State.advance_lane (dt : Nat) (m : Lane) : (s.advance dt).lane m = s.lane m := rfl
@[simp] theorem State.advance_port (dt : Nat) (m : Lane) : (s.advance dt).port m = s.port m := rfl
@[simp] theorem State.advance_link (dt : Nat) (j : LinkNo) : (s.advance dt).link j = s.link j := rfl
@[simp] theorem State.advance_bank (dt : Nat) (c : BankNo) : (s.advance dt).bank c = s.bank c := rfl
@[simp] theorem State.advance_point (dt : Nat) (q : PointNo) : (s.advance dt).point q = s.point q := rfl
@[simp] theorem State.advance_role (dt : Nat) (m : Lane) : (s.advance dt).role m = s.role m := rfl
@[simp] theorem State.setLane_port (l : Lane) (r : LaneRec) (m : Lane) : (s.setLane l r).port m = s.port m := rfl
@[simp] theorem State.setLane_link (l : Lane) (r : LaneRec) (j : LinkNo) : (s.setLane l r).link j = s.link j := rfl
@[simp] theorem State.setLane_bank (l : Lane) (r : LaneRec) (c : BankNo) : (s.setLane l r).bank c = s.bank c := rfl
@[simp] theorem State.setLane_point (l : Lane) (r : LaneRec) (q : PointNo) : (s.setLane l r).point q = s.point q := rfl
@[simp] theorem State.setPort_lane (l : Lane) (r : LanePort) (m : Lane) : (s.setPort l r).lane m = s.lane m := rfl
@[simp] theorem State.setPort_link (l : Lane) (r : LanePort) (j : LinkNo) : (s.setPort l r).link j = s.link j := rfl
@[simp] theorem State.setPort_bank (l : Lane) (r : LanePort) (c : BankNo) : (s.setPort l r).bank c = s.bank c := rfl
@[simp] theorem State.setPort_point (l : Lane) (r : LanePort) (q : PointNo) : (s.setPort l r).point q = s.point q := rfl
@[simp] theorem State.setPort_role (l : Lane) (r : LanePort) (m : Lane) : (s.setPort l r).role m = s.role m := rfl
@[simp] theorem State.setLink_lane (k : LinkNo) (r : LinkCtl) (m : Lane) : (s.setLink k r).lane m = s.lane m := rfl
@[simp] theorem State.setLink_port (k : LinkNo) (r : LinkCtl) (m : Lane) : (s.setLink k r).port m = s.port m := rfl
@[simp] theorem State.setLink_bank (k : LinkNo) (r : LinkCtl) (c : BankNo) : (s.setLink k r).bank c = s.bank c := rfl
@[simp] theorem State.setLink_point (k : LinkNo) (r : LinkCtl) (q : PointNo) : (s.setLink k r).point q = s.point q := rfl
@[simp] theorem State.setLink_role (k : LinkNo) (r : LinkCtl) (m : Lane) : (s.setLink k r).role m = s.role m := rfl
@[simp] theorem State.setBank_lane (b : BankNo) (r : BankRec) (m : Lane) : (s.setBank b r).lane m = s.lane m := rfl
@[simp] theorem State.setBank_port (b : BankNo) (r : BankRec) (m : Lane) : (s.setBank b r).port m = s.port m := rfl
@[simp] theorem State.setBank_link (b : BankNo) (r : BankRec) (j : LinkNo) : (s.setBank b r).link j = s.link j := rfl
@[simp] theorem State.setBank_point (b : BankNo) (r : BankRec) (q : PointNo) : (s.setBank b r).point q = s.point q := rfl
@[simp] theorem State.setBank_role (b : BankNo) (r : BankRec) (m : Lane) : (s.setBank b r).role m = s.role m := rfl
@[simp] theorem State.setPoint_lane (p : PointNo) (r : PointRec) (m : Lane) : (s.setPoint p r).lane m = s.lane m := rfl
@[simp] theorem State.setPoint_port (p : PointNo) (r : PointRec) (m : Lane) : (s.setPoint p r).port m = s.port m := rfl
@[simp] theorem State.setPoint_link (p : PointNo) (r : PointRec) (j : LinkNo) : (s.setPoint p r).link j = s.link j := rfl
@[simp] theorem State.setPoint_bank (p : PointNo) (r : PointRec) (c : BankNo) : (s.setPoint p r).bank c = s.bank c := rfl
@[simp] theorem State.setPoint_role (p : PointNo) (r : PointRec) (m : Lane) : (s.setPoint p r).role m = s.role m := rfl
@[simp] theorem State.updatePoints_lane (f : PointNo → PointRec → Bool → PointRec × Bool) (m : Lane) : (s.updatePoints f).lane m = s.lane m := by simp only [State.lane, State.updatePoints]
@[simp] theorem State.updatePoints_port (f : PointNo → PointRec → Bool → PointRec × Bool) (m : Lane) : (s.updatePoints f).port m = s.port m := by simp only [State.port, State.updatePoints]
@[simp] theorem State.updatePoints_link (f : PointNo → PointRec → Bool → PointRec × Bool) (j : LinkNo) : (s.updatePoints f).link j = s.link j := by simp only [State.link, State.updatePoints]
@[simp] theorem State.updatePoints_role (f : PointNo → PointRec → Bool → PointRec × Bool) (m : Lane) : (s.updatePoints f).role m = s.role m := by simp only [State.role, State.lane, State.updatePoints]
@[simp] theorem State.append_lane (e : Event) (m : Lane) : (s.append e).lane m = s.lane m := rfl
@[simp] theorem State.append_port (e : Event) (m : Lane) : (s.append e).port m = s.port m := rfl
@[simp] theorem State.append_link (e : Event) (j : LinkNo) : (s.append e).link j = s.link j := rfl
@[simp] theorem State.append_bank (e : Event) (c : BankNo) : (s.append e).bank c = s.bank c := rfl
@[simp] theorem State.append_point (e : Event) (q : PointNo) : (s.append e).point q = s.point q := rfl
@[simp] theorem State.append_role (e : Event) (m : Lane) : (s.append e).role m = s.role m := rfl
@[simp] theorem State.withdraw_lane (l : Lane) (m : Lane) : (s.withdraw l).lane m = s.lane m := rfl
@[simp] theorem State.withdraw_port (l : Lane) (m : Lane) : (s.withdraw l).port m = s.port m := rfl
@[simp] theorem State.withdraw_link (l : Lane) (j : LinkNo) : (s.withdraw l).link j = s.link j := rfl
@[simp] theorem State.withdraw_bank (l : Lane) (c : BankNo) : (s.withdraw l).bank c = s.bank c := rfl
@[simp] theorem State.withdraw_point (l : Lane) (q : PointNo) : (s.withdraw l).point q = s.point q := rfl
@[simp] theorem State.withdraw_role (l : Lane) (m : Lane) : (s.withdraw l).role m = s.role m := rfl
@[simp] theorem State.recomputeDigest_lane (m : Lane) : (s.recomputeDigest).lane m = s.lane m := rfl
@[simp] theorem State.recomputeDigest_port (m : Lane) : (s.recomputeDigest).port m = s.port m := rfl
@[simp] theorem State.recomputeDigest_link (j : LinkNo) : (s.recomputeDigest).link j = s.link j := rfl
@[simp] theorem State.recomputeDigest_bank (c : BankNo) : (s.recomputeDigest).bank c = s.bank c := rfl
@[simp] theorem State.recomputeDigest_point (q : PointNo) : (s.recomputeDigest).point q = s.point q := rfl
@[simp] theorem State.recomputeDigest_role (m : Lane) : (s.recomputeDigest).role m = s.role m := rfl
@[simp] theorem State.releaseSession_lane (m : Lane) : (s.releaseSession).lane m = s.lane m := rfl
@[simp] theorem State.releaseSession_port (m : Lane) : (s.releaseSession).port m = s.port m := rfl
@[simp] theorem State.releaseSession_link (j : LinkNo) : (s.releaseSession).link j = s.link j := rfl
@[simp] theorem State.releaseSession_bank (c : BankNo) : (s.releaseSession).bank c = s.bank c := rfl
@[simp] theorem State.releaseSession_point (q : PointNo) : (s.releaseSession).point q = s.point q := rfl
@[simp] theorem State.releaseSession_role (m : Lane) : (s.releaseSession).role m = s.role m := rfl
@[simp] theorem State.holdSession_lane (l : Lane) (m : Lane) : (s.holdSession l).lane m = s.lane m := rfl
@[simp] theorem State.holdSession_port (l : Lane) (m : Lane) : (s.holdSession l).port m = s.port m := rfl
@[simp] theorem State.holdSession_link (l : Lane) (j : LinkNo) : (s.holdSession l).link j = s.link j := rfl
@[simp] theorem State.holdSession_bank (l : Lane) (c : BankNo) : (s.holdSession l).bank c = s.bank c := rfl
@[simp] theorem State.holdSession_point (l : Lane) (q : PointNo) : (s.holdSession l).point q = s.point q := rfl
@[simp] theorem State.holdSession_role (l : Lane) (m : Lane) : (s.holdSession l).role m = s.role m := rfl

/-! ### Device time -/

theorem State.now_mk : s.clock.ms = s.now := rfl
@[simp] theorem interval_self (t : Time) : interval t t = 0 := by simp [interval]
@[simp] theorem reached_self (t : Time) : reached t t = true := by simp [reached]

end Machine
end Sys2Proof
end

