-- ==== Sys2Proof/Laws/Lines.lean ====
section
/-! SUPPORT. What happens to a request line once and for all: when it is taken at its own LF, when it is queued and when it is
discarded, so that a statement about a request is a statement about its handler alone. -/

namespace Sys2Proof.Machine

/-! ## Elapsed time and reset -/

theorem happens_reset (dt : Nat) (s : State) (event : State → State) (h : s.inReset = true) :
    happens dt s event = .next s := by simp [happens, h]

theorem happens_next (dt : Nat) (s : State) (event : State → State) (h : s.inReset = false) :
    happens dt s event = .next (event (s.advance dt)) := by simp [happens, h]

/-- A command never stops: all that happens is a next state. -/
theorem happens_answers (dt : Nat) (s : State) (event : State → State) :
    happens dt s event = .next (if s.inReset then s else event (s.advance dt)) := by
  unfold happens; split <;> rfl

/-! ## Requests of one field -/

section oneField
variable {α : Type} (missing name : Text) (read : Text → Option α)
@[simp] theorem oneField_nil : oneField missing name read [] = .error missing := rfl
@[simp] theorem oneField_many (f g : Text) (fs : List Text) : oneField missing name read (f :: g :: fs) = .error (asc "COUNT") := rfl
theorem oneField_read {f : Text} {x : α} (h : read f = some x) : oneField missing name read [f] = .ok x := by
  simp [oneField, h]
theorem oneField_bad {f : Text} (h : read f = none) : oneField missing name read [f] = .error name := by
  simp [oneField, h]

end oneField

/-! ## The take of a line -/

theorem State.advance_deadline (s : State) (dt n : Nat) :
    (s.advance dt).deadline n = (s.clock.after dt).ms + BitVec.ofNat 32 n := rfl

theorem State.advance_expiry (s : State) (dt n : Nat) :
    (s.advance dt).expiry n = ⟨(s.clock.after dt).ms + BitVec.ofNat 32 n, (s.clock.after dt).us⟩ := rfl

/-- What noteTaken leaves of the running timers (R58, R128). -/
theorem State.noteTaken_eq (s : State) (l : Lane) :
    s.noteTaken l = { s with
      lanes := s.lanes.set l ((s.lane l).restartQuiet (s.expiry s.settings.quiet))
      idle := if s.session = some l then some (s.expiry s.settings.session) else s.idle } := by
  unfold State.noteTaken
  by_cases h : s.session = some l
  · simp only [State.setLane, h, if_true]; rfl
  · simp only [State.setLane, h, if_false]

/-- The state in which a line that goes on finds the part is the one taking describes. -/
theorem State.taking_eq (s : State) (dt : Nat) (l : Lane) (q : Byte) :
    s.taking dt l q =
      ((s.advance dt).noteTaken l).setPort l { s.port l with expected := some (q + 1#8) } := by
  rw [State.noteTaken_eq]
  rfl

@[simp] theorem State.noteTaken_port (s : State) (l m : Lane) : (s.noteTaken l).port m = s.port m := by
  rw [State.noteTaken_eq]; rfl

/-- A line that goes on is dispatched and answered (R160). -/
theorem State.execute_eq (s : State) (dt : Nat) (l : Lane) (req : Request) :
    ((s.advance dt).noteTaken l).execute l req =
      (dispatch l req (s.taking dt l req.seq)).1.answered l req.seq req.text (dispatch l req (s.taking dt l req.seq)).2 := by
  simp only [State.execute, State.noteTaken_port, State.advance_port, ← State.taking_eq]
  generalize dispatch l req (s.taking dt l req.seq) = r
  simp only [State.reply, State.setPort_setPort, State.setPort_port_self, State.setPort_log]
  rfl

theorem readVerb_verbText (v : Verb) : readVerb (verbText v) = some v := by cases v <;> decide +kernel

/-- When a line goes on past the sequence decision: its verb resynchronises, or its number is the expected one (R161, R162). -/
theorem LanePort.decideSeq_goesOn (r : LanePort) (v : Verb) (q : Byte) (fields : List Text)
    (h : resynchronises v = true ∨ r.expected = some q) :
    r.decideSeq (mkRequest q (verbText v) fields) = .goesOn := by
  unfold LanePort.decideSeq
  rcases h with h | h <;> simp [mkRequest, readVerb_verbText, h]

/-- A request of a known verb that is taken at its own LF and goes on is handled by its owner, or answered NO EXCLUDED (R159, R160,
R164, R165). -/
theorem requestArrives_known (dt : Nat) (l : Lane) (q : Byte) (v : Verb) (fields : List Text) (s : State) (hl : s.Listens l)
    (hq : resynchronises v = true ∨ (s.port l).expected = some q) :
    requestArrives dt l q (verbText v) fields s =
      let r := if s.role l = .excluded ∧ servedExcluded v = false then (s.taking dt l q, no "EXCLUDED" [])
        else handleVerb v l fields (s.taking dt l q)
      .next (r.1.answered l q (requestText q (verbText v) fields) r.2) := by
  obtain ⟨h0, h1, h2, h4, h5⟩ := hl
  have hrole : (s.taking dt l q).role l = s.role l := by
    simp only [State.role, State.lane, State.taking, State.heard, PerLane.get_set_self]
  have htake : ((s.advance dt).port l).decideSeq (mkRequest q (verbText v) fields) = .goesOn :=
    LanePort.decideSeq_goesOn _ v q fields hq
  simp only [requestArrives, happens_next _ _ _ h0, State.requestEnds, State.acceptLine, State.take]
  simp only [State.advance_port, h1, h2, h4, h5, LanePort.full, List.length_nil, State.noteTaken_port]
  simp only [Config.queueSize, and_self, if_true]
  simp only [State.advance_port] at htake
  rw [htake]
  simp only [State.execute_eq]
  simp [mkRequest, dispatch, readVerb_verbText, hrole]

/-- The same, for a lane that is not EXCLUDED. -/
theorem requestArrives_owner (dt : Nat) (l : Lane) (q : Byte) (v : Verb) (fields : List Text) (s : State) (hl : s.Listens l)
    (hq : resynchronises v = true ∨ (s.port l).expected = some q) (hx : s.role l ≠ .excluded ∨ servedExcluded v = true) :
    requestArrives dt l q (verbText v) fields s =
      .next ((handleVerb v l fields (s.taking dt l q)).1.answered l q (requestText q (verbText v) fields)
        (handleVerb v l fields (s.taking dt l q)).2) := by
  rw [requestArrives_known dt l q v fields s hl hq]
  rcases hx with h | h <;> simp [h]

/-- The same through what its owner answers: the lemma by which a statement about a request becomes one about its handler. -/
theorem requestArrives_handled {dt : Nat} {l : Lane} {q : Byte} {v : Verb} {fields : List Text} {s t : State} {body : List Text}
    (hl : s.Listens l) (hq : resynchronises v = true ∨ (s.port l).expected = some q)
    (hx : s.role l ≠ .excluded ∨ servedExcluded v = true) (h : handleVerb v l fields (s.taking dt l q) = (t, body)) :
    requestArrives dt l q (verbText v) fields s = .next (t.answered l q (requestText q (verbText v) fields) body) := by
  rw [requestArrives_owner dt l q v fields s hl hq hx, h]

/-- A line of an unknown verb that goes on is answered NO VERB (R164). -/
theorem requestArrives_unknown (dt : Nat) (l : Lane) (q : Byte) (verb : Text) (fields : List Text) (s : State)
    (hs : s.Expects l q) (hv : readVerb verb = none) :
    requestArrives dt l q verb fields s =
      .next ((s.taking dt l q).answered l q (requestText q verb fields) (no "VERB" [verb])) := by
  obtain ⟨⟨h0, h1, h2, h4, h5⟩, h3⟩ := hs
  have htake : ((s.advance dt).port l).decideSeq (mkRequest q verb fields) = .goesOn := by
    simp [LanePort.decideSeq, mkRequest, hv, h3]
  simp only [requestArrives, happens_next _ _ _ h0, State.requestEnds, State.acceptLine, State.take]
  simp only [State.advance_port, h1, h2, h4, h5, LanePort.full, List.length_nil, State.noteTaken_port]
  simp only [Config.queueSize, and_self, if_true]
  simp only [State.advance_port] at htake
  rw [htake]
  simp only [State.execute_eq]
  simp [mkRequest, dispatch, hv]

/-- A busy port with room in its queue keeps the line for later (R159). -/
theorem requestArrives_queued (dt : Nat) (l : Lane) (q : Byte) (verb : Text) (fields : List Text) (s : State)
    (h0 : s.inReset = false) (hroom : (s.port l).queue.length < Config.queueSize)
    (hnew : (s.port l).assembling = [] ∧ (s.port l).dropping = false)
    (hbusy : (s.port l).queue ≠ [] ∨ (s.port l).sending ≠ none) :
    requestArrives dt l q verb fields s =
      .next ((s.advance dt).setPort l { s.port l with queue := (s.port l).queue ++ [mkRequest q verb fields] }) := by
  have hb : ¬((s.port l).queue = [] ∧ (s.port l).sending = none) := by tauto
  simp [requestArrives, happens_next _ _ _ h0, State.requestEnds, State.acceptLine, LanePort.full, hb, hnew,
    Nat.not_le.mpr hroom]

/-- With a full queue the line is discarded (R158). -/
theorem requestArrives_overrun (dt : Nat) (l : Lane) (q : Byte) (verb : Text) (fields : List Text) (s : State)
    (h0 : s.inReset = false) (hfull : Config.queueSize ≤ (s.port l).queue.length)
    (hnew : (s.port l).assembling = [] ∧ (s.port l).dropping = false) :
    requestArrives dt l q verb fields s = .next ((s.advance dt).discardLine l .overrun) := by
  simp [requestArrives, happens_next _ _ _ h0, State.requestEnds, LanePort.full, hfull, hnew]

/-- A request whose characters end an over-length line or a line already begun is what LINE_END with these characters is (R158). -/
theorem requestArrives_inLine (dt : Nat) (l : Lane) (q : Byte) (verb : Text) (fields : List Text) (s : State)
    (h0 : s.inReset = false) (hin : ¬((s.port l).assembling = [] ∧ (s.port l).dropping = false)) :
    requestArrives dt l q verb fields s =
      .next ((s.advance dt).lineEnds l (requestChars (mkRequest q verb fields))) := by
  simp [requestArrives, happens_next _ _ _ h0, State.requestEnds, hin]

/-- The LF that ends an over-length line ends the dropping and does nothing else (R158). -/
theorem State.lineEnds_dropping (s : State) (l : Lane) (chars : List RxByte) (h : (s.port l).dropping = true) :
    s.lineEnds l chars = s.setPort l { s.port l with assembling := [], dropping := false } := by
  simp [State.lineEnds, h]

/-! ## Fields of taking and answered -/

section fields
variable (s t : State) (dt : Nat) (l m : Lane) (q : Byte) (line : Text) (body : List Text)
@[simp] theorem State.taking_clock : (s.taking dt l q).clock = s.clock.after dt := rfl
@[simp] theorem State.taking_inReset : (s.taking dt l q).inReset = s.inReset := rfl
@[simp] theorem State.taking_mode : (s.taking dt l q).mode = s.mode := rfl
@[simp] theorem State.taking_session : (s.taking dt l q).session = s.session := rfl
@[simp] theorem State.taking_settings : (s.taking dt l q).settings = s.settings := rfl
@[simp] theorem State.taking_digest : (s.taking dt l q).digest = s.digest := rfl
@[simp] theorem State.taking_log : (s.taking dt l q).log = s.log := rfl
@[simp] theorem State.taking_round : (s.taking dt l q).round = s.round := rfl
@[simp] theorem State.taking_collecting : (s.taking dt l q).collecting = s.collecting := rfl
@[simp] theorem State.taking_summary : (s.taking dt l q).summary = s.summary := rfl
@[simp] theorem State.taking_points : (s.taking dt l q).points = s.points := rfl
@[simp] theorem State.taking_banks : (s.taking dt l q).banks = s.banks := rfl
@[simp] theorem State.taking_links : (s.taking dt l q).links = s.links := rfl
@[simp] theorem State.taking_pending : (s.taking dt l q).pending = s.pending := rfl
@[simp] theorem State.answered_clock : (t.answered l q line body).clock = t.clock := rfl
@[simp] theorem State.answered_inReset : (t.answered l q line body).inReset = t.inReset := rfl
@[simp] theorem State.answered_mode : (t.answered l q line body).mode = t.mode := rfl
@[simp] theorem State.answered_session : (t.answered l q line body).session = t.session := rfl
@[simp] theorem State.answered_idle : (t.answered l q line body).idle = t.idle := rfl
@[simp] theorem State.answered_settings : (t.answered l q line body).settings = t.settings := rfl
@[simp] theorem State.answered_digest : (t.answered l q line body).digest = t.digest := rfl
@[simp] theorem State.answered_log : (t.answered l q line body).log = t.log := rfl
@[simp] theorem State.answered_lanes : (t.answered l q line body).lanes = t.lanes := rfl
@[simp] theorem State.answered_round : (t.answered l q line body).round = t.round := rfl
@[simp] theorem State.answered_collecting : (t.answered l q line body).collecting = t.collecting := rfl
@[simp] theorem State.answered_summary : (t.answered l q line body).summary = t.summary := rfl
@[simp] theorem State.answered_points : (t.answered l q line body).points = t.points := rfl
@[simp] theorem State.answered_banks : (t.answered l q line body).banks = t.banks := rfl
@[simp] theorem State.answered_links : (t.answered l q line body).links = t.links := rfl
@[simp] theorem State.answered_pending : (t.answered l q line body).pending = t.pending := rfl
@[simp] theorem State.answered_lane : (t.answered l q line body).lane m = t.lane m := rfl
@[simp] theorem State.taking_link (k : LinkNo) : (s.taking dt l q).link k = s.link k := rfl
@[simp] theorem State.answered_link (k : LinkNo) : (t.answered l q line body).link k = t.link k := rfl
@[simp] theorem State.taking_bank (b : BankNo) : (s.taking dt l q).bank b = s.bank b := rfl
@[simp] theorem State.answered_bank (b : BankNo) : (t.answered l q line body).bank b = t.bank b := rfl
@[simp] theorem State.taking_point (p : PointNo) : (s.taking dt l q).point p = s.point p := rfl
@[simp] theorem State.answered_point (p : PointNo) : (t.answered l q line body).point p = t.point p := rfl
@[simp] theorem State.answered_role : (t.answered l q line body).role m = t.role m := rfl
@[simp] theorem State.taking_role : (s.taking dt l q).role m = s.role m := by
  cases l <;> cases m <;> rfl
@[simp] theorem State.taking_now : (s.taking dt l q).now = (s.advance dt).now := rfl
@[simp] theorem State.taking_lane_self :
    (s.taking dt l q).lane l = (s.lane l).restartQuiet ((s.advance dt).expiry s.settings.quiet) :=
  PerLane.get_set_self ..
@[simp] theorem State.taking_port_self : (s.taking dt l q).port l = { s.port l with expected := some (q + 1#8) } :=
  PerLane.get_set_self ..

end fields

end Sys2Proof.Machine
end

