-- ==== Sys2Proof/Laws/Links.lean ====
section
/-! SUPPORT. When a device time or an instant is reached, and what a link controller and a deadline of a bank can do, once and for
all. -/

namespace Sys2Proof.Machine

theorem reached_iff (now d : Time) : reached now d = true ↔ Due now d := decide_eq_true_iff

theorem Moment.reached_iff (now e : Moment) : now.reached e = true ↔ DueAt now e := by
  unfold Moment.reached DueAt
  split <;> simp [Machine.reached_iff]

/-- A link that is busy, is held back or has no candidate makes no choice (R95). -/
theorem State.serveLink_eq_self (s : State) (k : LinkNo)
    (h : (s.link k).transaction.isSome = true ∨ s.heldBack k = true ∨ s.choice k = none) : s.serveLink k = s := by
  unfold State.serveLink
  rcases h with h | h | h <;> simp [h]

/-- An idle link that is not held back starts the exchange of the bank it chooses (R95). -/
theorem State.serveLink_chosen (s : State) (k : LinkNo) (b : BankNo) (h : (s.link k).transaction = none)
    (hh : s.heldBack k = false) (hc : s.choice k = some b) : s.serveLink k = s.startExchange k b := by
  simp [State.serveLink, h, hh, hc]

/-- All that a link controller can do at its choice (R95). -/
theorem State.serveLink_cases (s : State) (k : LinkNo) :
    s.serveLink k = s ∨ ∃ b, (s.link k).transaction = none ∧ s.heldBack k = false ∧ s.choice k = some b ∧
      s.serveLink k = s.startExchange k b := by
  cases ht : (s.link k).transaction with
  | some t => exact .inl (s.serveLink_eq_self k (.inl (by simp [ht])))
  | none =>
    cases hh : s.heldBack k with
    | true => exact .inl (s.serveLink_eq_self k (.inr (.inl hh)))
    | false =>
      cases hc : s.choice k with
      | none => exact .inl (s.serveLink_eq_self k (.inr (.inr hc)))
      | some b => exact .inr ⟨b, rfl, rfl, rfl, s.serveLink_chosen k b ht hh hc⟩

/-- A settle deadline takes effect in the state it ends and where it is reached (R91, R113, log entry 3). -/
theorem State.settleReached_cases (s : State) (b : BankNo) (st : BankState) :
    (s.settleReached b st = s ∧ ∀ d, (s.bank b).settle = some d → (s.bank b).state = st → ¬ DueAt s.clock d) ∨
    ∃ d, (s.bank b).settle = some d ∧ (s.bank b).state = st ∧ DueAt s.clock d ∧ s.settleReached b st = s.settled b d.ms := by
  unfold State.settleReached
  cases hd : (s.bank b).settle with
  | none => exact .inl ⟨rfl, by simp⟩
  | some d =>
    by_cases h : (s.bank b).state = st ∧ s.clock.reached d = true
    · exact .inr ⟨d, rfl, h.1, (Moment.reached_iff _ _).mp h.2, by simp [h]⟩
    · refine .inl ⟨by simp [h], fun e he hs hr => h ⟨hs, ?_⟩⟩
      obtain rfl := Option.some.inj he
      exact (Moment.reached_iff _ _).mpr hr

/-- A bank has work exactly where a slot is pending, resync is set, or its survey due time is present and reached (R95). -/
theorem BankRec.hasWork_iff (r : BankRec) (clock : Moment) :
    r.hasWork clock = true ↔ (∃ i : SlotNo, r.pendingSet[i] = true) ∨ r.resync = true ∨
      ∃ e, r.surveyDue = some e ∧ DueAt clock e := by
  have slots : (!r.pendingSlots.isEmpty) = true ↔ ∃ i : SlotNo, r.pendingSet[i] = true := by
    simp [BankRec.pendingSlots]
  unfold BankRec.hasWork
  rw [Bool.or_eq_true, Bool.or_eq_true, slots, or_assoc]
  cases r.surveyDue <;> simp [Moment.reached_iff]

/-- A survey due time that is reached on an ACTIVE bank lets the controller of its link choose; any other changes nothing (R95). -/
theorem State.surveyFallsDue_cases (s : State) (b : BankNo) :
    (s.surveyFallsDue b = s ∧ ∀ e k, (s.bank b).surveyDue = some e → (s.bank b).activeLink = some k →
      (s.bank b).state = .active → ¬ DueAt s.clock e) ∨
    ∃ e k, (s.bank b).surveyDue = some e ∧ (s.bank b).activeLink = some k ∧ (s.bank b).state = .active ∧ DueAt s.clock e ∧
      s.surveyFallsDue b = s.serveLink k := by
  unfold State.surveyFallsDue
  cases hd : (s.bank b).surveyDue with
  | none => exact .inl ⟨rfl, by simp⟩
  | some d =>
    cases hk : (s.bank b).activeLink with
    | none => exact .inl ⟨rfl, by simp⟩
    | some j =>
      by_cases h : (s.bank b).state = .active ∧ s.clock.reached d = true
      · exact .inr ⟨d, j, rfl, rfl, h.1, (Moment.reached_iff _ _).mp h.2, by simp [h]⟩
      · refine .inl ⟨by simp [h], fun e k he _ hs hr => h ⟨hs, ?_⟩⟩
        obtain rfl := Option.some.inj he
        exact (Moment.reached_iff _ _).mpr hr

/-- A quiet timer is over exactly where it runs and its expiry is reached (R58). -/
theorem State.quietOver_iff (s : State) (l : Lane) :
    s.quietOver l = true ↔ ∃ e, (s.lane l).quiet = some e ∧ DueAt s.clock e := by
  unfold State.quietOver
  cases (s.lane l).quiet <;> simp [Moment.reached_iff]

/-- A hold is over exactly where its deadline is present and reached (R80). -/
theorem State.holdOver_iff (s : State) (l : Lane) :
    s.holdOver l = true ↔ ∃ e, (s.lane l).holdDeadline = some e ∧ DueAt s.clock e := by
  unfold State.holdOver
  cases (s.lane l).holdDeadline <;> simp [Moment.reached_iff]

/-- A confirm delay is over exactly where it runs and its end is reached (R71). -/
theorem State.confirmDue_iff (s : State) (l : Lane) :
    s.confirmDue l = true ↔ ∃ e, (s.lane l).confirm = some e ∧ DueAt s.clock e := by
  unfold State.confirmDue
  cases (s.lane l).confirm <;> simp [Moment.reached_iff]

/-- A reply timer is due exactly where its transaction awaits a reply and the expiry is reached (R92). -/
theorem State.replyDue_iff (s : State) (k : LinkNo) :
    s.replyDue k = true ↔ ∃ t e, (s.link k).transaction = some t ∧ t.wait = .awaiting e ∧ DueAt s.clock e := by
  unfold State.replyDue
  rcases h : (s.link k).transaction with _ | ⟨b, f, w⟩
  · simp
  · cases w <;> simp [Moment.reached_iff]

end Sys2Proof.Machine
end

