-- ==== Sys2Proof/Tests/Slice0.lean ====
section
/-! SUPPORT. Tests: well-formedness, the check values and layouts of the formats,
  single steps taken from the manual's tables and worked
examples, and for every statement with hypotheses a concrete state and operands that meet them. -/

namespace Sys2Proof.Tests

-- the file's many kernel evaluations in turn: in parallel they ask for more threads than the checker's memory limit leaves
set_option Elab.async false

open Sys2Proof Sys2Proof.Machine

/-! ## Well-formedness: one ill-formed term for each check -/

theorem test_wellFormed_accepts : Instr.wellFormed (.stage 0 .a 7#8 [asc "12", asc "4=250"]) = true := by decide +kernel
theorem test_wellFormed_refuses_empty_token : Instr.wellFormed (.drop 0 .a 0#8 [[]]) = false := by decide +kernel
theorem test_wellFormed_refuses_space_in_token : Instr.wellFormed (.drop 0 .a 0#8 [asc "1 2"]) = false := by decide +kernel
theorem test_wellFormed_refuses_empty_verb : Instr.wellFormed (.unknownVerb 0 .a 0#8 [] []) = false := by decide +kernel
theorem test_wellFormed_refuses_known_verb : Instr.wellFormed (.unknownVerb 0 .a 0#8 (asc "SEAL") []) = false := by decide +kernel
theorem test_wellFormed_refuses_long_request :
    Instr.wellFormed (.stage 0 .a 0#8 [List.replicate 240 65#8]) = false := by decide +kernel
theorem test_wellFormed_refuses_removal_as_bank :
    Instr.wellFormed (.bank 0 .a 0#8 [asc "1", asc "NONE"]) = false := by decide +kernel
theorem test_wellFormed_refuses_line_without_lf : Instr.wellFormed (.lineEnd 0 .a [⟨65#8, false⟩]) = false := by decide +kernel
theorem test_wellFormed_refuses_early_lf :
    Instr.wellFormed (.lineEnd 0 .a [⟨10#8, false⟩, ⟨10#8, false⟩]) = false := by decide +kernel
theorem test_wellFormed_refuses_long_line :
    Instr.wellFormed (.lineEnd 0 .a (List.replicate 240 ⟨65#8, false⟩ ++ [⟨10#8, false⟩])) = false := by decide +kernel
theorem test_wellFormed_refuses_empty_frame : Instr.wellFormed (.driverFrameReceived 0 .one []) = false := by decide +kernel

/-! ## Formats -/

/-- The check value of R181. -/
theorem test_crc16_check_value : crc16 (asc "123456789") = 0x29B1#16 := by decide +kernel
/-- The check value of R184. -/
theorem test_crc32_check_value : crc32 (asc "123456789") = 0xCBF43926#32 := by decide +kernel
/-- The digest that State.reset holds is the CRC-32 of its 560 bytes (R132, R184). -/
theorem test_reset_digest : State.reset.configDigest = resetDigest := by decide +kernel
/-- A LOAD for address 5 with tag 9 and the value 1500 for slot 5, by the layout of R183: 5A, 00101 001, 09, 01, 0 101 0101 DC. -/
theorem test_load_frame_bytes :
    (frameBytes { address := 5, kind := .load, tag := 9#8, entries := [⟨5, 1500⟩] }).take 6 =
      [0x5A#8, 0b00101001#8, 0x09#8, 0x01#8, 0b01010101#8, 0xDC#8] := by decide +kernel
/-- An entry with bit 15 set is no frame (R183), its CRC being right. -/
theorem test_frame_bit15_refused :
    let body := [0b00101101#8, 9#8, 1#8, 0b11010101#8, 0xDC#8]
    let crc := crc16 body
    readFrame (([0x5A#8] ++ body ++ [crc.extractLsb' 8 8, crc.extractLsb' 0 8]).map (RxByte.mk · false)) = none := by decide +kernel
/-- The characters of a request line from the marker on (R157): `:07 STATUS *` and four digits. -/
theorem test_status_line : (requestText 7#8 (verbText .status) []).take 12 = asc ":07 STATUS *" := by decide +kernel
theorem test_lowercase_verb_unknown : readVerb (asc "status") = none := by decide +kernel
theorem test_number_of_six_digits : readNumber (asc "000001") = none := by decide +kernel
theorem test_pair : readPair (asc "4=250") = some (4, 250) := by decide +kernel
theorem test_digest_lowercase : readDigest (asc "7ce3a8f2") = some resetDigest := by decide +kernel

/-! ## Small states -/

/-- One step with `c` in front, its result looked at through `f`. -/
def after {α : Type} (s : State) (c : Instr) (f : State → α) : Option α :=
  match step { s with pending := [c] } with
  | .next t => some (f t)
  | _ => none

/-- The body of the reply a lane is being sent. -/
def body (l : Lane) (s : State) : Option (List Text) := (s.port l).sending.map Reply.body

/-- The events of the records held. -/
def events (s : State) : List Event := s.log.ring.map Record.event

/-- A lane record with this role and the power line HIGH. -/
def laneIn (r : Role) : LaneRec := { LaneRec.reset .high with role := r, quiet := if r.seated then some ⟨20#32, 0⟩ else none }

def level (mn mx tol safe : Nat) : PointDef := { kind := .level, min := mn, max := mx, tol, safe }

/-- A SETTLED point. -/
def settled (d : PointDef) (v : Nat) : PointRec :=
  { defn := some d, target := some v, applied := some v, state := .settled, splits := 0, changed := none }

/-- A bank that serves link 1 at address 5. -/
def serving (st : BankState) : BankRec := { BankRec.blank with
  defn := some ⟨5, .one⟩, state := st, surveyDue := some ⟨50#32, 0⟩
  settle := if st = .warming ∨ st = .switching then some ⟨5#32, 0⟩ else none, enable := true }

/-- CONFIGURE: lane A holds the session and expects 5; points 16 and 63 and their banks are defined. The digest is a made-up one. -/
def cfg : State := { State.reset with
  session := some .a, idle := some ⟨2000#32, 0⟩, digest := 0x12345678#32
  ports := PerLane.ofFn fun _ => { LanePort.reset with expected := some 5#8 }
  points := (State.reset.points.set 16 (PointRec.inert (level 0 4000 20 0))).set 63 (PointRec.inert (level 0 9 0 1))
  banks := (State.reset.banks.set 2 { serving .down with enable := false, surveyDue := none }).set 7
    { BankRec.blank with defn := some ⟨31, .two⟩, activeLink := some .two, state := .down } }

/-- RUN as in the worked example of section 2.8: points 4, 5 and 6 of bank 0, A IN_CONTROL, B and C STANDBY, round 12. -/
def run : State := { State.reset with
  clock := ⟨998#32, 0⟩, mode := .run, round := 12, collecting := some Collecting.empty
  lanes := ⟨laneIn .inControl, laneIn .standby, laneIn .standby⟩
  ports := PerLane.ofFn fun _ => { LanePort.reset with expected := some 5#8 }
  points := ((State.reset.points.set 4 (settled (level 0 4095 10 0) 200)).set 5
    (settled { kind := .discrete, min := 0, max := 1, tol := 0, safe := 0 } 0)).set 6 (settled (level 0 4095 5 0) 1000)
  banks := State.reset.banks.set 0 (serving .active) }

/-- The same with other roles. -/
def runWith (a b c : Role) : State := { run with lanes := ⟨laneIn a, laneIn b, laneIn c⟩ }

/-- The example's stages, with A and B sealed and the timer running. -/
def staged : Collecting :=
  { ((((((Collecting.empty.put .a 4 250).put .a 5 1).put .b 4 255).put .b 5 1).put .b 6 1100).put .c 4 300).put .c 6 900 with
    sealed := ⟨true, true, false⟩, timer := some ⟨1004#32, 0⟩ }

def safeMode : State := { run with mode := .safe, collecting := none, lanes := ⟨laneIn .absent, laneIn .suspended, laneIn .absent⟩ }

/-- An exchange in flight on bank 0 and link 1, its reply awaited. -/
def inFlight (ph : Phase) (at_ : Attempt) : State :=
  let loaded := if ph = .survey then [] else [Entry.mk 4 200]
  { run with
    banks := run.banks.set 0 { serving .active with
      exchange := some { phase := ph, tag := 9#8, loaded, attempt := at_, link := .one } }
    links := run.links.set .one { LinkCtl.reset with transaction := some {
      bank := 0, wait := .awaiting ⟨999#32, 0⟩
      frame := { address := 5, kind := askKind ph, tag := 9#8, entries := if ph = .load then loaded else [] } } } }

/-! ## Single steps -/

/-- Section 2.8: C's seal closes round 12. -/
def sealC : Option (Option (List Text) × Nat × List (Option Nat) × List Nat) :=
  after { run with collecting := some staged, clock := ⟨1002#32, 0⟩ } (.seal 0 .c 5#8 [asc "12"]) fun t =>
    (body .c t, t.round, [(t.point 4).target, (t.point 5).target, (t.point 6).target],
      [(t.point 6).splits, (t.lane .c).strikes, (t.lane .a).streak, (t.lane .b).streak])
theorem test_seal_closes : sealC =
    some (some [asc "OK", asc "CLOSED", asc "12", asc "SEALED"], 13, [some 255, some 1, some 1000], [1, 1, 1, 1]) := by
  decide +kernel
theorem test_seal_records :
    after { run with collecting := some staged } (.seal 0 .c 5#8 [asc "12"]) events = some [
      { code := .nomajority, round := some 12, point := some 6, values := [1] },
      { code := .dissent, lane := some .c, round := some 12, point := some 4, values := [2, 1] }] := by decide +kernel
/-- Section 2.9: A's LEAVE passes control to B and closes the round. -/
theorem test_leave_closes :
    after { run with round := 13, collecting := some { staged with sealed := ⟨false, true, true⟩ } } (.leave 0 .a 5#8 [])
      (fun t => (t.role .a, t.role .b, t.role .c, t.summary.map Summary.cause)) =
      some (.absent, .inControl, .standby, some .departure) := by decide +kernel
/-- Section 2.8, 998: the reply counts the pairs. -/
theorem test_stage_reply :
    after run (.stage 0 .a 5#8 [asc "12", asc "4=250", asc "5=1"]) (body .a) =
      some (some [asc "OK", asc "STAGED", asc "12", asc "2"]) := by decide +kernel
theorem test_stage_last_value_stands :
    after run (.stage 0 .a 5#8 [asc "12", asc "4=250", asc "4=7"]) (fun t => t.collecting.bind fun c => c.slot .a 4) =
      some (some 7) := by decide +kernel
/-- Section 1.6: the definition of point 29 is accepted. -/
theorem test_point_defined :
    after cfg (.point 0 .a 5#8 [asc "29", asc "LEVEL", asc "0", asc "4000", asc "20", asc "0"])
      (fun t => (body .a t, (t.point 29).state)) = some (some [asc "OK", asc "29", asc "DEFINED"], .inert) := by decide +kernel
theorem test_point_min_not_below_max :
    after cfg (.point 0 .a 5#8 [asc "29", asc "LEVEL", asc "9", asc "9", asc "20", asc "9"]) (body .a) =
      some (some [asc "NO", asc "RANGE", asc "MAX"]) := by decide +kernel
theorem test_drop_undefined :
    after cfg (.drop 0 .a 5#8 [asc "017"]) (body .a) = some (some [asc "NO", asc "UNDEFINED", asc "17"]) := by decide +kernel
theorem test_bank_clash :
    after cfg (.bank 0 .a 5#8 [asc "3", asc "31", asc "1"]) (body .a) = some (some [asc "NO", asc "CLASH", asc "7"]) := by
  decide +kernel
theorem test_bank_removal :
    after cfg (.bankRemoval 0 .a 5#8 (asc "7")) (fun t => ((t.bank 7).state, (t.bank 7).defn)) = some (.unused, none) := by
  decide +kernel
/-- R86: BANK b NONE with b no number. -/
theorem test_bank_removal_form :
    after cfg (.bankRemoval 0 .a 5#8 (asc "b")) (body .a) = some (some [asc "NO", asc "FIELD", asc "BANK"]) := by decide +kernel
theorem test_open_held :
    after cfg (.openSession 0 .b 0#8 []) (body .b) = some (some [asc "NO", asc "SESSION", asc "A"]) := by decide +kernel
theorem test_close :
    after cfg (.closeSession 0 .a 5#8 []) (fun t => (t.session, t.idle, body .a t)) =
      some (none, none, some [asc "OK", asc "RELEASED"]) := by decide +kernel
/-- R127 and log entry 9: the count goes before the mode. -/
theorem test_close_count :
    after run (.closeSession 0 .a 5#8 [asc "x"]) (body .a) = some (some [asc "NO", asc "FIELD", asc "COUNT"]) := by decide +kernel
theorem test_set_out_of_range :
    after cfg (.setSetting 0 .a 5#8 [asc "ROUNDTIME", asc "51"]) (body .a) =
      some (some [asc "NO", asc "RANGE", asc "ROUNDTIME"]) := by decide +kernel
theorem test_start :
    after cfg (.start 0 .a 5#8 [asc "12345678"]) (fun t => (body .a t, t.mode, t.role .a, (t.point 16).target, (t.bank 2).state)) =
      some (some [asc "OK", asc "STARTED", asc "1"], .run, .inControl, some 0, .warming) := by decide +kernel
theorem test_resume_digest :
    after safeMode (.resume 0 .a 5#8 [asc "00000000"]) (body .a) = some (some [asc "NO", asc "DIGEST"]) := by decide +kernel
theorem test_restart :
    after run (.restart 0 .a 5#8 []) (fun t => (t.mode, t.session, t.role .b, (t.point 4).target, (t.bank 0).state)) =
      some (.configure, some .a, .absent, none, .down) := by decide +kernel
theorem test_join_role :
    after run (.join 0 .b 0#8 [digestText resetDigest]) (body .b) =
      some (some [asc "NO", asc "ROLE", asc "STANDBY"]) := by decide +kernel
theorem test_handover :
    after run (.handover 0 .a 5#8 [asc "C"]) (fun t => (t.role .a, t.role .c)) = some (.standby, .inControl) := by decide +kernel
theorem test_return_role :
    after run (.returnLane 0 .a 5#8 [digestText resetDigest]) (body .a) =
      some (some [asc "NO", asc "ROLE", asc "IN_CONTROL"]) := by decide +kernel
theorem test_status :
    after run (.status 0 .c 9#8 []) (body .c) = some (some [asc "OK", asc "STATUS", asc "RUN", asc "998", asc "12", asc "STOPPED",
      asc "A", asc "IN_CONTROL", asc "STANDBY", asc "STANDBY", asc "NONE", asc "7CE3A8F2"]) := by decide +kernel
theorem test_points_run :
    after run (.points 0 .a 5#8 [asc "63", asc "8"]) (body .a) = some (some [asc "OK", asc "POINTS", asc "1", asc "63",
      asc "UNDEFINED", asc "-", asc "-", asc "-", asc "-", asc "-"]) := by decide +kernel
theorem test_ack_range :
    after run (.ack 0 .a 5#8 [asc "0"]) (body .a) = some (some [asc "NO", asc "RANGE", asc "1"]) := by decide +kernel
/-- R150: more than one field is refused for the count, a malformed first field too. -/
theorem test_ack_count :
    after run (.ack 0 .a 5#8 [asc "x", asc "1"]) (body .a) = some (some [asc "NO", asc "FIELD", asc "COUNT"]) := by decide +kernel
theorem test_unknown_verb :
    after run (.unknownVerb 0 .a 5#8 (asc "stage") []) (body .a) = some (some [asc "NO", asc "VERB", asc "stage"]) := by
  decide +kernel
/-- A stop bit found low is the first check to fail (R158). -/
theorem test_line_damaged :
    after run (.lineEnd 0 .a [⟨65#8, true⟩, ⟨13#8, false⟩, ⟨10#8, false⟩]) (fun t => (events t, (t.lane .a).strikes)) =
      some ([{ code := .lineError, lane := some .a, cause := some (.line .check) }], 1) := by decide +kernel
/-- A line in another accepted spelling (R157, R180): lowercase hexadecimal digits and several spaces. -/
def spelled : Text := asc ":0a STAGE 12   4=250 5=1  *2cd3"
theorem test_spelled_line :
    after { run with ports := run.ports.set .a { run.port .a with expected := some 10#8 } } (.lineEnd 0 .a (lineChars spelled))
      (fun t => (body .a t, (t.port .a).stored.map Stored.line)) =
      some (some [asc "OK", asc "STAGED", asc "12", asc "2"], some spelled) := by decide +kernel
theorem test_over_length_drops :
    after run (.lineOverLength 0 .b) (fun t => (t.port .b).dropping) = some true := by decide +kernel
/-- R158: the rest of an over-length line takes the next line with it, and the LF ends the dropping. -/
theorem test_over_length_takes_next :
    after { run with ports := run.ports.set .b { run.port .b with dropping := true } } (.status 0 .b 5#8 [])
      (fun t => ((t.port .b).dropping, body .b t)) = some (false, none) := by decide +kernel
theorem test_confirm_delay :
    after run (.pgFall 300 .b) (fun t => ((t.lane .b).power, (t.lane .b).confirm)) =
      some (.confirming, some ⟨998#32, 800⟩) := by decide +kernel
/-- R172: the round timer expires where device time reaches the recorded value, not a microsecond earlier. -/
theorem test_round_timer_not_reached :
    after { run with collecting := some staged, clock := ⟨1003#32, 0⟩ } (.roundTimerExpiry 999) State.round = some 12 := by
  decide +kernel
theorem test_round_timer_reached :
    after { run with collecting := some staged, clock := ⟨1003#32, 0⟩ } (.roundTimerExpiry 1000) State.round = some 13 := by
  decide +kernel
/-- R186: a timer counts its length from the instant at which it started, the fraction of the millisecond included. -/
theorem test_round_timer_keeps_fraction :
    after run (.seal 999 .a 5#8 [asc "12"]) (fun t => t.collecting.bind Collecting.timer) = some (some ⟨1002#32, 999⟩) := by
  decide +kernel
theorem test_quiet_suspends :
    after run (.quietTimerExpiry 0 .c) (fun t => (t.role .c, (t.lane .c).suspendedUntil, events t)) =
      some (.suspended, some 1498#32, [{ code := .quiet, lane := some .c, cause := some (.role .standby) },
        { code := .suspended, lane := some .c, cause := some (.suspend .quiet), values := [1, 500] }]) := by decide +kernel
theorem test_reset_low :
    after run .resetNLow (fun t => (t.inReset, t.clock, t.mode)) = some (true, ⟨0#32, 0⟩, .configure) := by decide +kernel
theorem test_reset_end_samples :
    after { State.reset with inReset := true } (.resetEnd ⟨true, false, true⟩) (fun t => ((t.lane .a).power, (t.lane .b).power)) =
      some (.high, .low) := by decide +kernel
/-- An ECHO whose value differs fails attempt 1, and the LOAD is sent again (R97). -/
theorem test_echo_mismatch :
    after (inFlight .load .first) (.driverFrameReceived 0 .one
      ((frameBytes { address := 5, kind := .echo, tag := 9#8, entries := [⟨4, 201⟩] }).map (RxByte.mk · false)))
      (fun t => (((t.bank 0).exchange.map Exchange.attempt), (t.link .one).transaction.map Transaction.wait)) =
      some (some .second, some .sending) := by decide +kernel

/-! ## Witnesses: concrete states and operands that meet the hypotheses of each statement, clause by clause -/

/-- `run` with one lane's record and port changed. -/
def runLane (l : Lane) (r : LaneRec) : State := { run with lanes := run.lanes.set l r }

theorem witness_StepRunsFront : State.reset.pending = [] := rfl
theorem witness_EveryCommandAnswers : elapsed (.replyEnd 5 .a) = some 5 := rfl
theorem witness_PortsIndependent : (∃ t, exec (.pgFall 5 .a) State.reset = .next t) ∧ elapsed (.pgFall 5 .a) ≠ none ∧
    linkLane (.pgFall 5 .a) ≠ some .c := ⟨⟨_, rfl⟩, by decide, by decide⟩
theorem witness_ConfigurationFixed : (∃ t, exec (.pgFall 5 .a) run = .next t) ∧ elapsed (.pgFall 5 .a) ≠ none ∧
    run.mode ≠ .configure := ⟨⟨_, rfl⟩, by decide, by decide⟩
theorem witness_ModeChangesRecorded : ∃ t, exec (.restart 0 .a 5#8 []) run = .next t ∧ t.mode ≠ run.mode := by
  have h : after run (.restart 0 .a 5#8 []) State.mode = some .configure := by decide +kernel
  simp only [after, step] at h
  revert h
  cases hx : exec (Instr.restart 0 .a 5#8 []) run with
  | next t => exact fun h => ⟨t, rfl, by rw [show { run with pending := [] } = run from rfl] at h; simp_all [run]⟩
  | fault r => intro h; rw [show { run with pending := [] } = run from rfl] at h; simp_all
  | refused r => intro h; rw [show { run with pending := [] } = run from rfl] at h; simp_all

theorem cfg_configures : cfg.Configures .a 5#8 := ⟨⟨⟨rfl, rfl, rfl, rfl, rfl⟩, rfl⟩, by decide, rfl, rfl⟩
theorem cfg_banks (b : BankNo) : (cfg.bank b).defn = if b = 2 then some ⟨5, .one⟩ else if b = 7 then some ⟨31, .two⟩ else none := by
  revert b; decide +kernel

/-- The largest and the smallest definition. -/
theorem witness_PointDefines : cfg.Configures .a 5#8 ∧
    (readNumber (asc "63") = some (63 : PointNo).val ∧ readNumber (asc "0") = some 0 ∧ readNumber (asc "4095") = some 4095 ∧
      readNumber (asc "255") = some 255 ∧ 0 < 4095 ∧ 4095 ≤ 4095 ∧ 255 ≤ 255 ∧ 0 ≤ 4095) ∧
    (readNumber (asc "0") = some (0 : PointNo).val ∧ readNumber (asc "1") = some 1 ∧ 0 < 1 ∧ 0 ≤ 1 ∧ 1 ≤ 1) :=
  ⟨cfg_configures, by decide +kernel, by decide +kernel⟩
/-- The fields of each refusal by form: no number, no kind, a bad third field after a good one, too few fields and too many. -/
theorem witness_PointDefines_form : cfg.Configures .a 5#8 ∧ readNumber (asc "-1") = none ∧ readNumber (asc "99999") = some 99999 ∧
    asc "level" ≠ asc "LEVEL" ∧ asc "level" ≠ asc "DISCRETE" ∧ (∀ x ∈ [asc "0"], (readNumber x).isSome = true) ∧
    [asc "MIN", asc "MAX", asc "TOL", asc "SAFE"][[asc "0"].length]? = some (asc "MAX") ∧
    [asc "SAFE"][([] : List Text).length]? = some (asc "SAFE") ∧ [asc "0"].length ≠ 4 ∧ [asc "0", asc "-1"].length ≠ 1 ∧
    ∀ x ∈ [asc "0", asc "-1"].take 1, (readNumber x).isSome = true := ⟨cfg_configures, by decide +kernel⟩
/-- A value beside the limit of each range check. -/
theorem witness_PointDefines_range : cfg.Configures .a 5#8 ∧
    (∀ t ∈ ["64", "63", "4096", "4095", "256", "255", "0", "1", "2"], (readNumber (asc t)).isSome = true) ∧
    readNumber (asc "64") = some 64 ∧ readNumber (asc "4096") = some 4096 ∧ readNumber (asc "2") = some 2 ∧ ¬(64 ≤ 63) ∧
    ¬(4095 < 4095) ∧ ¬(4096 ≤ 4095) ∧ ¬(256 ≤ 255) ∧ ¬(1 ≤ 0) ∧ (63 < 64 ∨ 1 < 1) ∧ (63 < 63 ∨ 1 < 2) :=
  ⟨cfg_configures, by decide +kernel⟩
theorem witness_BankDefines_free : cfg.Configures .a 5#8 ∧ readNumber (asc "7") = some (7 : BankNo).val ∧
    readNumber (asc "31") = some 31 ∧ readNumber (asc "1") = some 1 ∧
    ∀ c d, c ≠ 7 → (cfg.bank c).defn = some d → d.address ≠ 31 := by
  refine ⟨cfg_configures, by decide +kernel, by decide +kernel, by decide +kernel, fun c d h g => ?_⟩
  rw [cfg_banks] at g
  split at g
  · simp_all; subst g; decide
  · simp_all
theorem witness_BankDefines_clash : (cfg.bank 2).defn = some ⟨5, .one⟩ ∧
    ∀ e f, e ≠ (0 : BankNo) → (cfg.bank e).defn = some f → f.address = 5 → e = 2 := by
  refine ⟨by decide +kernel, fun e f h g k => ?_⟩
  rw [cfg_banks] at g
  split at g
  · assumption
  · split at g
    · simp_all; subst g; simp at k
    · simp at g
/-- The fields of each refusal of BANK by form, and a value beside the limit of each range. -/
theorem witness_BankDefines_refused : cfg.Configures .a 5#8 ∧ readNumber (asc "b") = none ∧ asc "none" ≠ asc "NONE" ∧
    readNumber (asc "none") = none ∧ readNumber (asc "7") = some 7 ∧ readNumber (asc "8") = some 8 ∧
    readNumber (asc "0") = some 0 ∧ readNumber (asc "1") = some 1 ∧ readNumber (asc "31") = some 31 ∧
    readNumber (asc "32") = some 32 ∧ readNumber (asc "3") = some 3 ∧ (7 < 8 ∨ 1 < 1 ∨ 31 < 1 ∨ 1 ≠ 1 ∧ 1 ≠ 2) ∧
    (7 < 7 ∨ 0 < 1 ∨ 31 < 0 ∨ 1 ≠ 1 ∧ 1 ≠ 2) ∧ (7 < 7 ∨ 32 < 1 ∨ 31 < 32 ∨ 1 ≠ 1 ∧ 1 ≠ 2) ∧
    (7 < 7 ∨ 31 < 1 ∨ 31 < 31 ∨ 0 ≠ 1 ∧ 0 ≠ 2) ∧ (7 < 7 ∨ 31 < 1 ∨ 31 < 31 ∨ 3 ≠ 1 ∧ 3 ≠ 2) := ⟨cfg_configures, by decide +kernel⟩
theorem witness_DefinitionsRemoved : cfg.Configures .a 5#8 ∧ readNumber (asc "63") = some (63 : PointNo).val ∧
    (cfg.point 63).defn.isSome = true ∧ readNumber (asc "64") = some 64 ∧ readNumber (asc "7") = some (7 : BankNo).val ∧
    (cfg.bank 7).defn.isSome = true ∧ readNumber (asc "8") = some 8 ∧ readNumber (asc "p") = none :=
  ⟨cfg_configures, by decide +kernel⟩

/-- Lane C's port has taken no line yet: OPEN is taken all the same. -/
theorem witness_OpenTakesSession : cfg.Listens .c ∧ cfg.role .c ≠ .excluded ∧ cfg.mode = .configure ∧
    (cfg.lane .c).power = .high ∧ cfg.session = some .a ∧ Lane.a ≠ .c := ⟨⟨rfl, rfl, rfl, rfl, rfl⟩, by decide +kernel⟩
theorem witness_OpenTakesSession_free : State.reset.Listens .b ∧ State.reset.role .b ≠ .excluded ∧
    State.reset.mode = .configure ∧ (State.reset.lane .b).power = .high ∧ State.reset.session = none :=
  ⟨⟨rfl, rfl, rfl, rfl, rfl⟩, by decide +kernel⟩
theorem witness_OpenTakesSession_mode : run.Listens .b ∧ run.role .b ≠ .excluded ∧ run.mode ≠ .configure :=
  ⟨⟨rfl, rfl, rfl, rfl, rfl⟩, by decide +kernel⟩
theorem witness_OpenTakesSession_power :
    let s := State.afterReset ⟨.low, .high, .high⟩
    s.Listens .a ∧ s.role .a ≠ .excluded ∧ s.mode = .configure ∧ (s.lane .a).power ≠ .high :=
  ⟨⟨rfl, rfl, rfl, rfl, rfl⟩, by decide +kernel⟩
theorem witness_CloseReleasesSession : cfg.Expects .a 5#8 ∧ cfg.role .a ≠ .excluded ∧ cfg.mode = .configure ∧
    cfg.session = some .a ∧ cfg.Expects .b 5#8 ∧ cfg.role .b ≠ .excluded ∧ Lane.a ≠ .b :=
  ⟨⟨⟨rfl, rfl, rfl, rfl, rfl⟩, rfl⟩, by decide, rfl, rfl, ⟨⟨rfl, rfl, rfl, rfl, rfl⟩, rfl⟩, by decide, by decide⟩
theorem witness_CloseReleasesSession_none :
    let s := { cfg with session := none }
    s.Expects .a 5#8 ∧ s.role .a ≠ .excluded ∧ s.mode = .configure ∧ s.session = none :=
  ⟨⟨⟨rfl, rfl, rfl, rfl, rfl⟩, rfl⟩, by decide, rfl, rfl⟩
theorem witness_CloseReleasesSession_mode : run.Expects .b 5#8 ∧ run.role .b ≠ .excluded ∧ run.mode ≠ .configure :=
  ⟨⟨⟨rfl, rfl, rfl, rfl, rfl⟩, rfl⟩, by decide, by decide⟩
/-- Both ends of a range, and the values beside them. -/
theorem witness_SetChanges : cfg.Configures .a 5#8 ∧ settingRange .session = (500, 10000) ∧
    readNumber (asc "500") = some 500 ∧ readNumber (asc "10000") = some 10000 ∧ readNumber (asc "499") = some 499 ∧
    readNumber (asc "10001") = some 10001 := ⟨cfg_configures, by decide +kernel⟩
/-- A name that is none, and a value that is no number behind a name. -/
theorem witness_SetChanges_form : cfg.Configures .a 5#8 ∧ (∀ n, asc "hold" ≠ settingText n) ∧ settingText .hold = asc "HOLD" ∧
    readNumber (asc "six") = none ∧ readNumber (asc "6") = some 6 :=
  ⟨cfg_configures, fun n => (by cases n <;> decide +kernel), by decide +kernel⟩
theorem witness_ConfigurationRefused : run.Expects .b 5#8 ∧ run.role .b ≠ .excluded ∧ run.mode ≠ .configure ∧
    cfg.Expects .b 5#8 ∧ cfg.role .b ≠ .excluded ∧ cfg.mode = .configure ∧ cfg.session ≠ some .b ∧
    IsRequest (.drop 0 .b 5#8 [asc "1"]) .drop 0 .b 5#8 [asc "1"] ∧
    IsRequest (.bankRemoval 0 .b 5#8 (asc "8")) .bank 0 .b 5#8 [asc "8", asc "NONE"] :=
  ⟨⟨⟨rfl, rfl, rfl, rfl, rfl⟩, rfl⟩, by decide, by decide, ⟨⟨rfl, rfl, rfl, rfl, rfl⟩, rfl⟩, by decide, rfl, by decide, .inl rfl,
    .inr ⟨rfl, _, rfl, rfl⟩⟩
theorem witness_StartRuns : cfg.Configures .a 5#8 ∧ readDigest (asc "12345678") = some cfg.digest ∧
    (cfg.lane .a).power = .high ∧ (∃ p, (cfg.point p).defn.isSome = true) ∧
    ∀ p, (cfg.point p).defn.isSome = true → (cfg.bank (bankOf p)).defn.isSome = true :=
  ⟨cfg_configures, by decide +kernel, rfl, ⟨63, by decide +kernel⟩, by decide +kernel⟩
/-- One state and digest for each refusal: a low power line, another digest, no point, and bank 2 not defined below bank 7. -/
theorem witness_StartRuns_refused :
    let low := { cfg with lanes := cfg.lanes.set .a { laneIn .absent with power := .low } }
    let bare := { cfg with points := State.reset.points }
    let gap := { cfg with banks := cfg.banks.set 2 BankRec.blank }
    readDigest (asc "1234567") = none ∧ low.Configures .a 5#8 ∧ (low.lane .a).power ≠ .high ∧
      readDigest (asc "12345679") = some 0x12345679#32 ∧ 0x12345679#32 ≠ cfg.digest ∧
      bare.Configures .a 5#8 ∧ (bare.lane .a).power = .high ∧ (∀ p, (bare.point p).defn = none) ∧
      gap.Configures .a 5#8 ∧ (gap.lane .a).power = .high ∧ (gap.bank 2).defn = none ∧
      (∃ i, (gap.point (pointAt 2 i)).defn.isSome = true) ∧
      ∀ e i, e < 2 → (gap.point (pointAt e i)).defn.isSome = true → (gap.bank e).defn.isSome = true :=
  ⟨by decide +kernel, ⟨⟨⟨rfl, rfl, rfl, rfl, rfl⟩, rfl⟩, by decide, rfl, rfl⟩, by decide, by decide +kernel, by decide,
    ⟨⟨⟨rfl, rfl, rfl, rfl, rfl⟩, rfl⟩, by decide, rfl, rfl⟩, rfl, by decide +kernel,
    ⟨⟨⟨rfl, rfl, rfl, rfl, rfl⟩, rfl⟩, by decide, rfl, rfl⟩, rfl, by decide +kernel, ⟨0, by decide +kernel⟩, by decide +kernel⟩

/-- The suspended-until is reached at the very event (R57). -/
theorem witness_ResumeRuns :
    let s := { safeMode with lanes := safeMode.lanes.set .b { laneIn .suspended with suspendedUntil := some 998#32 } }
    s.Listens .b ∧ s.role .b ≠ .excluded ∧ s.mode = .safe ∧ s.role .b = .suspended ∧ (s.advance 0).MayEnter .b ∧
      (s.lane .b).power = .high ∧ readDigest (asc "7CE3A8F2") = some s.digest :=
  ⟨⟨rfl, rfl, rfl, rfl, rfl⟩, by decide, rfl, rfl, fun d h => by cases h; decide, rfl, by decide +kernel⟩
/-- One millisecond before it; a low power line; another digest; and the mode and the role that RESUME does not serve. -/
theorem witness_ResumeRuns_refused :
    let wait := { safeMode with lanes := safeMode.lanes.set .b { laneIn .suspended with suspendedUntil := some 999#32 } }
    let low := { safeMode with lanes := safeMode.lanes.set .a { laneIn .absent with power := .low } }
    let wild := { safeMode with lanes := safeMode.lanes.set .a (laneIn .standby) }
    wait.Listens .b ∧ wait.role .b ≠ .excluded ∧ (wait.lane .b).suspendedUntil = some 999#32 ∧
      ¬ Due (wait.advance 0).now 999#32 ∧
      low.Listens .a ∧ (low.advance 0).MayEnter .a ∧ (low.lane .a).power ≠ .high ∧ readDigest (asc "0") = none ∧
      safeMode.Listens .a ∧ (safeMode.advance 0).MayEnter .a ∧ readDigest (asc "00000000") = some 0#32 ∧
      0#32 ≠ safeMode.digest ∧ run.Listens .a ∧ run.mode ≠ .safe ∧
      wild.Listens .a ∧ wild.mode = .safe ∧ ¬ (wild.role .a = .absent ∨ wild.role .a = .suspended) :=
  ⟨⟨rfl, rfl, rfl, rfl, rfl⟩, by decide, rfl, by decide, ⟨rfl, rfl, rfl, rfl, rfl⟩, fun d h => (by cases h), by decide,
    by decide +kernel, ⟨rfl, rfl, rfl, rfl, rfl⟩,
    fun d h => (by cases h), by decide +kernel, by decide +kernel, ⟨rfl, rfl, rfl, rfl, rfl⟩, by decide, ⟨rfl, rfl, rfl, rfl, rfl⟩,
      rfl, by decide⟩
theorem witness_RestartConfigures : run.Expects .a 5#8 ∧ run.role .a ≠ .excluded ∧ run.mode = .run ∧ run.role .a = .inControl ∧
    run.Expects .b 5#8 ∧ run.role .b ≠ .excluded ∧ run.role .b ≠ .inControl ∧ cfg.Expects .a 5#8 ∧ cfg.role .a ≠ .excluded ∧
    cfg.mode = .configure :=
  ⟨⟨⟨rfl, rfl, rfl, rfl, rfl⟩, rfl⟩, by decide, rfl, rfl, ⟨⟨rfl, rfl, rfl, rfl, rfl⟩, rfl⟩, by decide, by decide, ⟨⟨rfl, rfl, rfl,
    rfl, rfl⟩, rfl⟩, by decide, rfl⟩
theorem witness_RestartConfigures_safe : safeMode.Expects .b 5#8 ∧ safeMode.role .b ≠ .excluded ∧ safeMode.mode = .safe ∧
    (safeMode.lane .b).power = .high := ⟨⟨⟨rfl, rfl, rfl, rfl, rfl⟩, rfl⟩, by decide, rfl, rfl⟩
theorem witness_RestartConfigures_power :
    let s := { safeMode with lanes := safeMode.lanes.set .b { laneIn .suspended with power := .low } }
    s.Expects .b 5#8 ∧ s.role .b ≠ .excluded ∧ s.mode = .safe ∧ (s.lane .b).power ≠ .high :=
  ⟨⟨⟨rfl, rfl, rfl, rfl, rfl⟩, rfl⟩, by decide, rfl, by decide⟩

/-- The example's STAGE; twelve pairs are the most. -/
theorem witness_StageStores : run.Expects .a 5#8 ∧ run.mode = .run ∧ run.collecting = some Collecting.empty ∧
    (run.role .a).seated = true ∧ readNumber (asc "12") = some run.round ∧
    readPairs (List.replicate 12 (asc "4=4095")) = some (List.replicate 12 (4, 4095)) ∧
    ∀ x ∈ List.replicate 12 (4, 4095), ∃ p : PointNo, ∃ d, x.1 = p.val ∧ (run.point p).defn = some d ∧ d.min ≤ x.2 ∧ x.2 ≤ d.max := by
  refine ⟨⟨⟨rfl, rfl, rfl, rfl, rfl⟩, rfl⟩, rfl, rfl, rfl, by decide +kernel, by decide +kernel, fun x h => ?_⟩
  obtain rfl := List.eq_of_mem_replicate h
  exact ⟨4, level 0 4095 10 0, rfl, by decide +kernel, by decide, by decide⟩
theorem witness_RoundRequestsRefused : run.Expects .a 5#8 ∧ run.role .a ≠ .excluded ∧ run.mode = .run ∧
    readNumber (asc "11") = some 11 ∧ 11 ≠ run.round ∧ readPairs [asc "4=1"] = some [(4, 1)] ∧
    safeMode.Expects .a 5#8 ∧ safeMode.role .a ≠ .excluded ∧ safeMode.mode ≠ .run :=
  ⟨⟨⟨rfl, rfl, rfl, rfl, rfl⟩, rfl⟩, by decide, rfl, by decide +kernel, by decide, by decide +kernel, ⟨⟨rfl, rfl, rfl, rfl, rfl⟩,
    rfl⟩, by decide, by decide⟩
/-- No number, a second pair that is none, no pair and one pair above twelve. -/
theorem witness_RoundRequestsRefused_form : readNumber (asc "x") = none ∧ (∀ x ∈ [asc "4=1"], (readPair x).isSome = true) ∧
    readPair (asc "4=") = none ∧ readPairs [] = some [] ∧
    readPairs (List.replicate 13 (asc "4=1")) = some (List.replicate 13 (4, 1)) ∧ 12 < (List.replicate 13 (4, 1)).length := by
  decide +kernel
/-- The first number above 63 behind a point that is not defined; the lowest undefined point of one bank behind a value out of range;
and a value just above a maximum behind one at it. -/
theorem witness_RoundRequestsRefused_pairs : run.Expects .a 5#8 ∧ run.role .a ≠ .excluded ∧ run.mode = .run ∧
    run.collecting = some Collecting.empty ∧ (run.role .a).seated = true ∧ 12 = run.round ∧
    Collecting.empty.sealed.get .a = false ∧
    readPairs [asc "7=0", asc "64=0"] = some ([(7, 0)] ++ (64, 0) :: []) ∧ (∀ x ∈ [(7, 0)], x.1 ≤ 63) ∧ 63 < 64 ∧
    readPairs [asc "5=2", asc "7=0"] = some ([(5, 2)] ++ (7, 0) :: []) ∧
    (∀ x ∈ [(5, 2)], ∃ p : PointNo, x.1 = p.val ∧ (run.point p).defn.isSome = true) ∧
    (∀ p : PointNo, 7 = p.val → (run.point p).defn = none) ∧
    readPairs [asc "5=1", asc "5=2"] = some ([(5, 1)] ++ (5, 2) :: []) ∧
    (∃ p : PointNo, ∃ d, 5 = p.val ∧ (run.point p).defn = some d ∧ d.min ≤ 1 ∧ 1 ≤ d.max) ∧
    ∃ p : PointNo, ∃ d, 5 = p.val ∧ (run.point p).defn = some d ∧ (2 < d.min ∨ d.max < 2) := by
  refine ⟨⟨⟨rfl, rfl, rfl, rfl, rfl⟩, rfl⟩, by decide, rfl, rfl, rfl, rfl, rfl, by decide +kernel, by decide, by decide,
    by decide +kernel,
    by decide +kernel, by decide +kernel, by decide +kernel, ?_, ?_⟩ <;>
    exact ⟨5, { kind := .discrete, min := 0, max := 1, tol := 0, safe := 0 }, rfl, by decide +kernel, by decide⟩
theorem witness_RoundRequestsRefused_sealed :
    let s := { run with collecting := some staged }
    s.Expects .b 5#8 ∧ s.role .b ≠ .excluded ∧ s.mode = .run ∧ s.collecting = some staged ∧ (s.role .b).seated = true ∧
      12 = s.round ∧ staged.sealed.get .b = true := ⟨⟨⟨rfl, rfl, rfl, rfl, rfl⟩, rfl⟩, by decide, rfl, rfl, rfl, rfl, rfl⟩
theorem witness_RoundRequestsRefused_role :
    let s := runWith .absent .inControl .absent
    s.Expects .a 5#8 ∧ s.role .a ≠ .excluded ∧ s.mode = .run ∧ s.collecting = some Collecting.empty ∧
      (s.role .a).seated = false := ⟨⟨⟨rfl, rfl, rfl, rfl, rfl⟩, rfl⟩, by decide, rfl, rfl, rfl⟩
theorem witness_SealJoins : run.Expects .a 5#8 ∧ run.mode = .run ∧ run.collecting = some Collecting.empty ∧
    (run.role .a).seated = true ∧ Collecting.empty.sealed.get .a = false ∧ readNumber (asc "12") = some run.round ∧
    run.StillOpen Collecting.empty .a :=
  ⟨⟨⟨rfl, rfl, rfl, rfl, rfl⟩, rfl⟩, rfl, rfl, rfl, rfl, by decide +kernel, .b, by decide, rfl, rfl⟩
theorem witness_SealJoins_no_voter :
    let s := runWith .probation .held .absent
    s.Expects .a 5#8 ∧ s.mode = .run ∧ (s.role .a).seated = true ∧ ∀ m, (s.role m).voting = false :=
  ⟨⟨⟨rfl, rfl, rfl, rfl, rfl⟩, rfl⟩, rfl, rfl, fun m => by cases m <;> rfl⟩
theorem witness_SealCloses :
    let s := { run with collecting := some staged }
    s.Expects .c 5#8 ∧ s.mode = .run ∧ s.collecting = some staged ∧ (s.role .c).voting = true ∧ staged.sealed.get .c = false ∧
      readNumber (asc "12") = some s.round ∧ ∀ m, m ≠ .c → (s.role m).voting = true → staged.sealed.get m = true :=
  ⟨⟨⟨rfl, rfl, rfl, rfl, rfl⟩, rfl⟩, rfl, rfl, rfl, rfl, by decide +kernel,
    fun m h _ => by cases m <;> first | rfl | exact absurd rfl h⟩
/-- The timer at the very microsecond of its expiry, one before it, and stopped. -/
theorem witness_RoundTimerCloses :
    let s := { run with collecting := some staged, clock := ⟨1004#32, 0⟩ }
    let early := { s with clock := ⟨1003#32, 999⟩ }
    s.inReset = false ∧ s.mode = .run ∧ s.collecting = some staged ∧ staged.timer = some ⟨1004#32, 0⟩ ∧
      DueAt (s.advance 0).clock ⟨1004#32, 0⟩ ∧ early.inReset = false ∧ early.collecting = some staged ∧
      ¬ DueAt (early.advance 0).clock ⟨1004#32, 0⟩ ∧
      run.collecting = some Collecting.empty ∧ Collecting.empty.timer = none := by
  refine ⟨rfl, rfl, rfl, rfl, by decide, rfl, rfl, by decide, rfl, rfl⟩
/-- Section 2.9: A, IN_CONTROL, departs, B and C having sealed; by LEAVE, by its quiet expiry at this microsecond, and by a loss whose
confirm delay ends at this event, the flap check at its boundary on either side. -/
theorem witness_DepartureCloses :
    let c := { staged with sealed := ⟨false, true, true⟩ }
    let s (quiet : Moment) (d : Time) := { run with
      collecting := some c
      lanes := run.lanes.set .a { laneIn .inControl with
        quiet := some quiet, power := .confirming, confirm := some ⟨998#32, 0⟩, lastReturn := some d } }
    let p := s ⟨998#32, 0⟩ 548#32
    p.inReset = false ∧ p.mode = .run ∧ p.collecting = some c ∧ (p.role .a).voting = true ∧
      (∃ m, m ≠ .a ∧ (p.role m).voting = true) ∧ (∀ m, m ≠ .a → (p.role m).voting = true → c.sealed.get m = true) ∧
      p.Expects .a 5#8 ∧ (p.lane .a).quiet = some ⟨998#32, 0⟩ ∧ DueAt (p.advance 0).clock ⟨998#32, 0⟩ ∧ (p.lane .a).power = .confirming ∧
      (p.lane .a).confirm = some ⟨998#32, 0⟩ ∧ DueAt (p.clock.after 0) ⟨998#32, 0⟩ ∧ (p.advance 0).Steady .a ∧
      ¬ ((s ⟨998#32, 0⟩ 549#32).advance 0).Steady .a ∧ (∀ m, m ≠ .a → p.role m ≠ .inControl) ∧ p.role .b = .standby ∧
      ∀ m, m ≠ .a → p.role m = .standby → m = .b ∨ (Lane.b, m) ∈ [(Lane.a, Lane.b), (.a, .c), (.b, .c)] :=
  ⟨rfl, rfl, rfl, rfl, ⟨.b, by decide, rfl⟩, fun m h _ => (by cases m <;> first | rfl | exact absurd rfl h), ⟨⟨rfl, rfl, rfl, rfl,
    rfl⟩, rfl⟩, rfl,
    by decide, rfl, rfl, by decide, fun u h => (by cases h; decide), fun h => absurd (h 549#32 rfl) (by decide),
    fun m h => (by cases m <;> first | exact absurd rfl h | decide), rfl,
    fun m h _ => (by cases m <;> first | exact absurd rfl h | decide)⟩
/-- Opinions of each outcome with three voters: 250, 255, 300 within 10; 1000, 1100, 900 within 5. -/
theorem witness_VoteOnAPoint :
    votePoint 50 none [(.a, 250), (.b, 255), (.c, 300)] = ⟨.agree, some 255, none⟩ ∧
    votePoint 10 none [(.a, 250), (.b, 255), (.c, 300)] = ⟨.majority, some 255, some .c⟩ ∧
    votePoint 5 none [(.a, 1000), (.b, 1100), (.c, 900)] = ⟨.nomajority, none, none⟩ ∧
    votePoint 5 (some .c) [(.b, 10), (.c, 15)] = ⟨.pair, some 15, none⟩ ∧
    votePoint 4 none [(.b, 10), (.c, 15)] = ⟨.split, some 10, none⟩ := by decide
theorem witness_TargetWrite :
    let r := settled (level 0 9 0 0) 4
    r.target = some 4 ∧ r.target ≠ some 5 ∧ r.state = .settled ∧ { r with state := .pending, target := some 5 }.applied = some 4 := by
  decide

/-- The suspended-until is reached at the very event (R57). -/
theorem witness_JoinEnters :
    let s := { run with lanes := run.lanes.set .c { laneIn .suspended with suspendedUntil := some 998#32 } }
    s.Listens .c ∧ s.role .c ≠ .excluded ∧ s.mode = .run ∧ s.role .c = .suspended ∧ (s.advance 0).MayEnter .c ∧
      (s.lane .c).power = .high ∧ readDigest (asc "7CE3A8F2") = some s.digest :=
  ⟨⟨rfl, rfl, rfl, rfl, rfl⟩, by decide, rfl, rfl, fun d h => by cases h; decide, rfl, by decide +kernel⟩
/-- The millisecond before it, across the wrap of device time; a low power line; another digest; a voter; and another mode. -/
theorem witness_JoinEnters_refused :
    let wait := { run with
      clock := ⟨4294967295#32, 999⟩
      lanes := run.lanes.set .c { laneIn .suspended with suspendedUntil := some 0#32 } }
    let low := { run with lanes := run.lanes.set .c { laneIn .absent with power := .low } }
    let away := runWith .inControl .standby .absent
    wait.Listens .c ∧ wait.role .c ≠ .excluded ∧ wait.role .c = .suspended ∧ (wait.lane .c).suspendedUntil = some 0#32 ∧
      ¬ Due (wait.advance 0).now 0#32 ∧ low.Listens .c ∧ (low.advance 0).MayEnter .c ∧ (low.lane .c).power ≠ .high ∧
      away.Listens .c ∧ (away.advance 0).MayEnter .c ∧ readDigest (asc "00000000") = some 0#32 ∧ 0#32 ≠ away.digest ∧
      run.Listens .b ∧ run.mode = .run ∧ ¬ (run.role .b = .absent ∨ run.role .b = .suspended) ∧
      safeMode.Listens .a ∧ safeMode.mode ≠ .run :=
  ⟨⟨rfl, rfl, rfl, rfl, rfl⟩, by decide, rfl, rfl, by decide, ⟨rfl, rfl, rfl, rfl, rfl⟩, fun d h => (by cases h), by decide, ⟨rfl,
    rfl, rfl, rfl, rfl⟩,
    fun d h => (by cases h), by decide +kernel, by decide +kernel, ⟨rfl, rfl, rfl, rfl, rfl⟩, rfl, by decide, ⟨rfl, rfl, rfl, rfl,
      rfl⟩, by decide⟩
/-- A LEAVE that leaves the round open, one that closes it, and one that leaves a HELD lane alone. -/
theorem witness_LeaveLeaves :
    let sealed := { Collecting.empty with sealed := ⟨true, false, true⟩, timer := some ⟨1004#32, 0⟩ }
    let s := { run with collecting := some sealed }
    let u := runWith .held .inControl .absent
    run.Expects .b 5#8 ∧ run.mode = .run ∧ run.collecting = some Collecting.empty ∧ (run.role .b).voting = true ∧
      run.StillOpen Collecting.empty .b ∧
      s.Expects .b 5#8 ∧ s.collecting = some sealed ∧ (s.role .b).voting = true ∧ ¬ s.StillOpen sealed .b ∧
      u.Expects .b 5#8 ∧ u.mode = .run ∧ u.collecting = some Collecting.empty ∧ (u.role .b).voting = true ∧
      (∀ m, m ≠ .b → (u.role m).voting = false) ∧ u.role .a = .held :=
  ⟨⟨⟨rfl, rfl, rfl, rfl, rfl⟩, rfl⟩, rfl, rfl, rfl, ⟨.a, by decide, rfl, rfl⟩, ⟨⟨rfl, rfl, rfl, rfl, rfl⟩, rfl⟩, rfl, rfl,
    fun ⟨m, h, _, g⟩ => (by cases m <;> first | exact absurd rfl h | cases g), ⟨⟨rfl, rfl, rfl, rfl, rfl⟩, rfl⟩, rfl, rfl, rfl,
    fun m h => (by cases m <;> first | exact absurd rfl h | rfl), rfl⟩
theorem witness_LeaveLeaves_control : run.Expects .a 5#8 ∧ run.role .a = .inControl ∧ run.role .b = .standby ∧
    (∀ m, m ≠ .a → run.role m ≠ .inControl) ∧
    (∀ m, run.role m = .standby → m = .b ∨ (Lane.b, m) ∈ [(Lane.a, Lane.b), (.a, .c), (.b, .c)]) ∧
    run.StillOpen Collecting.empty .a :=
  ⟨⟨⟨rfl, rfl, rfl, rfl, rfl⟩, rfl⟩, rfl, rfl, fun m h => by cases m <;> first | exact absurd rfl h | decide,
    fun m h => by cases m <;> first | (cases h; done) | decide, .b, by decide, rfl, rfl⟩
/-- A PROBATION lane, a lane that is HELD, and an ABSENT one in SAFE and in CONFIGURE. -/
theorem witness_LeaveLeaves_others :
    let s := runWith .inControl .probation .held
    s.Expects .b 5#8 ∧ s.collecting = some Collecting.empty ∧ s.role .b = .probation ∧ s.Expects .c 5#8 ∧
      (s.role .c).seated = false ∧ s.role .c ≠ .excluded ∧ safeMode.Expects .a 5#8 ∧ (safeMode.role .a).seated = false ∧
      safeMode.role .a ≠ .excluded ∧ cfg.Expects .a 5#8 ∧ (cfg.role .a).seated = false ∧ cfg.role .a ≠ .excluded :=
  ⟨⟨⟨rfl, rfl, rfl, rfl, rfl⟩, rfl⟩, rfl, rfl, ⟨⟨rfl, rfl, rfl, rfl, rfl⟩, rfl⟩, rfl, by decide, ⟨⟨rfl, rfl, rfl, rfl, rfl⟩, rfl⟩,
    rfl, by decide, ⟨⟨rfl, rfl, rfl, rfl, rfl⟩, rfl⟩, rfl, by decide⟩
theorem witness_LastVoterEntersSafe :
    let s := runWith .inControl .probation .suspended
    s.Expects .a 5#8 ∧ s.mode = .run ∧ s.collecting = some Collecting.empty ∧ s.role .a = .inControl ∧
      (∀ m, m ≠ .a → (s.role m).voting = false ∧ s.role m ≠ .held) ∧
      ∀ p d, (s.point p).defn = some d → (s.point p).state ≠ .inert ∧ (s.point p).state ≠ .undefined :=
  ⟨⟨⟨rfl, rfl, rfl, rfl, rfl⟩, rfl⟩, rfl, rfl, rfl, fun m h => by cases m <;> first | exact absurd rfl h | decide, fun p d h => by
    have : ∀ p : PointNo, (run.point p).defn.isSome = true → (run.point p).state ≠ .inert ∧ (run.point p).state ≠ .undefined := by
      decide +kernel
    exact this p (by rw [show (run.point p).defn = some d from h]; rfl)⟩
theorem witness_HandoverPasses : run.Expects .a 5#8 ∧ run.mode = .run ∧ run.role .a = .inControl ∧ run.role .c = .standby :=
  ⟨⟨⟨rfl, rfl, rfl, rfl, rfl⟩, rfl⟩, rfl, rfl, rfl⟩
/-- A letter in lower case, a requester that has no control, the requester itself as the target, and another mode. -/
theorem witness_HandoverPasses_refused : run.role .a ≠ .excluded ∧ (∀ m, asc "c" ≠ laneText m) ∧ run.Expects .b 5#8 ∧
    run.role .b ≠ .excluded ∧ run.role .b ≠ .inControl ∧ run.role .a ≠ .standby ∧ safeMode.Expects .a 5#8 ∧
    safeMode.role .a ≠ .excluded ∧ safeMode.mode ≠ .run :=
  ⟨by decide, fun m => (by cases m <;> decide +kernel), ⟨⟨rfl, rfl, rfl, rfl, rfl⟩, rfl⟩, by decide, by decide, by decide, ⟨⟨rfl,
    rfl, rfl, rfl, rfl⟩, rfl⟩, by decide, by decide⟩
def heldLane : LaneRec := { laneIn .held with
  holdDeadline := some ⟨998#32, 0⟩, roleBefore := some .inControl, carriedStrikes := some 2, carriedStreak := some 0 }
theorem witness_ReturnRestores :
    let s := runLane .b heldLane
    s.Listens .b ∧ s.role .b = .held ∧ (s.lane .b).power = .high ∧ readDigest (asc "7CE3A8F2") = some s.digest ∧
      (s.lane .b).roleBefore = some .inControl ∧ (s.lane .b).holdDeadline = some ⟨998#32, 0⟩ ∧ (s.lane .b).carriedStrikes = some 2 ∧
      (s.lane .b).carriedStreak = some 0 ∧ s.role .a = .inControl :=
  ⟨⟨rfl, rfl, rfl, rfl, rfl⟩, rfl, rfl, by decide +kernel, rfl, rfl, rfl, rfl, rfl⟩
theorem witness_ReturnRestores_vacant :
    let s := { run with lanes := ⟨laneIn .absent, heldLane, laneIn .probation⟩ }
    s.Listens .b ∧ s.role .b = .held ∧ ∀ m, (s.role m).voting = false :=
  ⟨⟨rfl, rfl, rfl, rfl, rfl⟩, rfl, fun m => by cases m <;> rfl⟩
/-- A HELD lane whose power line is LOW, one with another digest, and a lane that is not HELD. -/
theorem witness_ReturnRestores_refused :
    let low := runLane .b { heldLane with power := .low }
    let high := runLane .b heldLane
    low.Listens .b ∧ low.role .b ≠ .excluded ∧ low.role .b = .held ∧ (low.lane .b).power ≠ .high ∧
      high.Listens .b ∧ high.role .b ≠ .excluded ∧ high.role .b = .held ∧ (high.lane .b).power = .high ∧
      readDigest (asc "7ce3a8f3") = some 0x7CE3A8F3#32 ∧ 0x7CE3A8F3#32 ≠ high.digest ∧ readDigest (asc "7ce3a8f") = none ∧
      run.Listens .a ∧ run.role .a ≠ .excluded ∧ run.role .a ≠ .held :=
  ⟨⟨rfl, rfl, rfl, rfl, rfl⟩, by decide, rfl, by decide, ⟨rfl, rfl, rfl, rfl, rfl⟩, by decide, rfl, rfl, by decide +kernel,
    by decide, by decide +kernel, ⟨rfl, rfl, rfl, rfl, rfl⟩, by decide,
    by decide⟩
/-- A voter whose expiry is reached at this very microsecond, the lane IN_CONTROL among them, on each side of SUSPLIMIT; a PROBATION
lane; and an expiry one microsecond away. -/
theorem witness_QuietExpirySuspends :
    let s (r : Role) (n : Nat) (us : Nat) := runLane .b { laneIn r with suspensions := n, quiet := some ⟨998#32, us⟩ }
    let a := { run with lanes := run.lanes.set .a { laneIn .inControl with quiet := some ⟨998#32, 0⟩ } }
    (s .standby 1 0).inReset = false ∧ (s .standby 1 0).mode = .run ∧
      (s .standby 1 0).collecting = some Collecting.empty ∧ ((s .standby 1 0).lane .b).quiet = some ⟨998#32, 0⟩ ∧
      DueAt ((s .standby 1 0).advance 0).clock ⟨998#32, 0⟩ ∧ ((s .standby 1 0).role .b).voting = true ∧
      (s .standby 1 0).Suspends .b ∧ ¬ (s .standby 2 0).Suspends .b ∧
      a.inReset = false ∧ (a.lane .a).quiet = some ⟨998#32, 0⟩ ∧ a.role .a = .inControl ∧
      (s .probation 1 0).role .b = .probation ∧ ((s .probation 1 0).lane .b).quiet = some ⟨998#32, 0⟩ ∧
      ((s .standby 1 1).lane .b).quiet = some ⟨998#32, 1⟩ ∧ ¬ DueAt ((s .standby 1 1).advance 0).clock ⟨998#32, 1⟩ :=
  ⟨rfl, rfl, rfl, rfl, by decide, rfl, by decide, by decide, rfl, rfl, rfl, rfl, rfl, rfl, by decide⟩
/-- A quiet expiry that closes the round, and one that enters SAFE. -/
theorem witness_QuietExpirySuspends_departs :
    let sealed := { Collecting.empty with sealed := ⟨true, false, true⟩, timer := some ⟨1004#32, 0⟩ }
    let s := { runLane .b { laneIn .standby with quiet := some ⟨998#32, 0⟩ } with collecting := some sealed }
    let u := { runWith .absent .inControl .probation with clock := ⟨998#32, 0⟩ }
    (s.role .b).voting = true ∧ s.collecting = some sealed ∧ (s.lane .b).quiet = some ⟨998#32, 0⟩ ∧ ¬ s.StillOpen sealed .b ∧
      (u.role .b).voting = true ∧ (u.lane .b).quiet = some ⟨20#32, 0⟩ ∧ DueAt (u.advance 0).clock ⟨20#32, 0⟩ ∧
      ∀ m, m ≠ .b → (u.role m).voting = false ∧ u.role m ≠ .held :=
  ⟨rfl, rfl, rfl, fun ⟨m, h, _, g⟩ => (by cases m <;> first | exact absurd rfl h | cases g), rfl, rfl, by decide,
    fun m h => (by cases m <;> first | exact absurd rfl h | decide)⟩

/-- The flap check at its boundary: 450 ms since the return pass,
  449 do not (R72); the confirm delay ends at this very microsecond, or
one later. -/
theorem witness_LossConfirmed :
    let lost (r : Role) (d : Time) (us : Nat) := runLane .b { laneIn r with
      power := .confirming, confirm := some ⟨998#32, us⟩, lastReturn := some d }
    let s := lost .standby 548#32 0
    s.inReset = false ∧ (s.lane .b).power = .confirming ∧ (s.lane .b).confirm = some ⟨998#32, 0⟩ ∧
      DueAt (s.advance 0).clock ⟨998#32, 0⟩ ∧ ¬ DueAt ((lost .standby 548#32 1).advance 0).clock ⟨998#32, 1⟩ ∧
      s.mode = .run ∧ s.collecting = some Collecting.empty ∧ (s.role .b).voting = true ∧ (s.advance 0).Steady .b ∧
      ¬ ((lost .standby 549#32 0).advance 0).Steady .b ∧ (lost .probation 0#32 0).role .b = .probation ∧
      (lost .held 548#32 0).role .b = .held ∧ ((lost .held 548#32 0).advance 0).Steady .b ∧
      ¬ ((lost .held 549#32 0).advance 0).Steady .b ∧ ((lost .held 549#32 0).role .a).voting = true ∧
      (lost .suspended 548#32 0).role .b = .suspended ∧ (lost .excluded 548#32 0).role .b = .excluded :=
  ⟨rfl, rfl, rfl, by decide, by decide, rfl, rfl, rfl, fun u h => (by cases h; decide),
    fun h => absurd (h 549#32 rfl) (by decide), rfl, rfl, fun u h => (by cases h; decide),
    fun h => absurd (h 549#32 rfl) (by decide), rfl, rfl, rfl⟩
/-- The lane IN_CONTROL with another voter, and alone beside a PROBATION lane; the last HELD lane. -/
theorem witness_LossConfirmed_last :
    let low (r : Role) : LaneRec := { laneIn r with power := .confirming, confirm := some ⟨998#32, 0⟩, lastReturn := some 549#32 }
    let s := { run with lanes := ⟨low .inControl, laneIn .standby, laneIn .standby⟩ }
    let u := { run with lanes := ⟨low .inControl, laneIn .absent, laneIn .probation⟩ }
    let h := { run with lanes := ⟨low .held, laneIn .absent, laneIn .probation⟩ }
    (s.role .a).voting = true ∧ (s.role .b).voting = true ∧ (u.role .a).voting = true ∧
      (∀ m, m ≠ .a → (u.role m).voting = false ∧ u.role m ≠ .held) ∧ h.mode = .run ∧ h.role .a = .held ∧
      ¬ (h.advance 0).Steady .a ∧ ∀ m, m ≠ .a → (h.role m).voting = false ∧ h.role m ≠ .held :=
  ⟨rfl, rfl, rfl, fun m h => (by cases m <;> first | exact absurd rfl h | decide), rfl, rfl,
    fun h => absurd (h 549#32 rfl) (by decide), fun m h => (by cases m <;> first | exact absurd rfl h | decide)⟩

theorem witness_LossConfirmed_session :
    let low : LaneRec := { laneIn .absent with power := .confirming, confirm := some ⟨0#32, 0⟩ }
    let s := { cfg with lanes := ⟨low, low, laneIn .absent⟩ }
    s.inReset = false ∧ (s.lane .a).power = .confirming ∧ (s.lane .a).confirm = some ⟨0#32, 0⟩ ∧
      DueAt (s.advance 0).clock ⟨0#32, 0⟩ ∧ s.role .a = .absent ∧ s.session = some .a ∧ (s.lane .b).power = .confirming ∧
      s.role .b = .absent ∧ s.session ≠ some .b := ⟨rfl, rfl, rfl, by decide, rfl, rfl, rfl, rfl, by decide⟩
/-- The timers that do not run, of lane A IN_CONTROL with the power line HIGH, and the session that nobody holds. -/
theorem witness_stopped_timers :
    let s := runLane .a { laneIn .inControl with quiet := none }
    s.inReset = false ∧ (s.lane .a).quiet = none ∧ (s.lane .a).power ≠ .confirming ∧ s.role .a ≠ .held ∧
      (s.lane .a).suspendedUntil = none ∧ s.session = none := ⟨rfl, rfl, by decide, by decide, rfl, rfl⟩
theorem witness_PowerEdges :
    let s := { run with lanes := ⟨laneIn .inControl, { laneIn .standby with power := .confirming },
      { laneIn .absent with power := .low }⟩ }
    s.inReset = false ∧ (s.lane .a).power = .high ∧ (s.lane .b).power = .confirming ∧ (s.lane .c).power = .low :=
  ⟨rfl, rfl, rfl, rfl⟩
/-- The deadline at its very microsecond with another voter, on each side of SUSPLIMIT; the last HELD lane; and the microsecond
before. -/
theorem witness_HoldExpirySuspends :
    let s := runLane .b { heldLane with suspensions := 1 }
    let u := runLane .b { heldLane with suspensions := 2 }
    let last := { run with lanes := ⟨laneIn .absent, heldLane, laneIn .probation⟩ }
    s.inReset = false ∧ s.role .b = .held ∧ (s.lane .b).holdDeadline = some ⟨998#32, 0⟩ ∧ (s.lane .b).roleBefore = some .inControl ∧
      (s.lane .b).carriedStrikes = some 2 ∧ DueAt (s.advance 0).clock ⟨998#32, 0⟩ ∧
      (∃ m, m ≠ .b ∧ ((s.role m).voting = true ∨ s.role m = .held)) ∧ s.Suspends .b ∧ ¬ u.Suspends .b ∧ last.mode = .run ∧
      last.role .b = .held ∧ (∀ m, m ≠ .b → (last.role m).voting = false ∧ last.role m ≠ .held) ∧
      ¬ DueAt ({ s with clock := ⟨997#32, 999⟩ }.advance 0).clock ⟨998#32, 0⟩ :=
  ⟨rfl, rfl, rfl, rfl, rfl, by decide, ⟨.a, by decide, .inl rfl⟩, by decide, by decide, rfl, rfl,
    fun m h => (by cases m <;> first | exact absurd rfl h | decide), by decide⟩
theorem witness_WaitsAndSessionsEnd :
    let s (d : Time) := runLane .b { laneIn .suspended with suspendedUntil := some d }
    (s 998#32).inReset = false ∧ ((s 998#32).lane .b).suspendedUntil = some 998#32 ∧ Due ((s 998#32).advance 0).now 998#32 ∧
      ((s 999#32).lane .b).suspendedUntil = some 999#32 ∧ ¬ Due ((s 999#32).advance 0).now 999#32 ∧ cfg.inReset = false ∧
      cfg.session = some .a ∧ cfg.idle = some ⟨2000#32, 0⟩ ∧ ¬ DueAt (cfg.advance 0).clock ⟨2000#32, 0⟩ ∧
      DueAt ({ cfg with clock := ⟨2000#32, 0⟩ }.advance 0).clock ⟨2000#32, 0⟩ := by
  refine ⟨rfl, rfl, by decide, rfl, by decide, rfl, rfl, rfl, by decide, by decide⟩

/-- Bank 0 settles on link 1 at 998, bank 1 at `other`, and bank 2 has a survey to come at 2000; the link's pointer stands at 7. -/
def settling (st : BankState) (other : Time) : State := { run with
  banks := ((run.banks.set 0 { serving st with settle := some ⟨998#32, 0⟩, surveyDue := none }).set 1
    { serving .warming with settle := some ⟨other, 0⟩, surveyDue := none }).set 2 { serving .active with surveyDue := some ⟨2000#32, 0⟩ } }
/-- Bank 0 settled. -/
def settledBank (s : State) : State := { s.advance 0 with
  banks := s.banks.set 0 { s.bank 0 with state := .active, resync := true, settle := none }
  links := s.links.set .one { s.link .one with settledAt := some 998#32 } }
/-- The deadline at its very microsecond: the bank itself is chosen where the other deadline lies a millisecond ahead,
  and the choice is
held back where the two fall together. -/
theorem witness_SettledBankStarts (st : BankState) (h : st = .warming ∨ st = .switching) :
    let s := settling st 999#32
    s.inReset = false ∧ (s.bank 0).state = st ∧ (s.bank 0).activeLink = some .one ∧ (s.bank 0).settle = some ⟨998#32, 0⟩ ∧
      DueAt (s.advance 0).clock ⟨998#32, 0⟩ ∧ (s.link .one).transaction = none ∧ (settledBank s).heldBack .one = false ∧
      (settledBank s).choice .one = some 0 ∧ (settledBank (settling st 998#32)).heldBack .one = true := by
  rcases h with rfl | rfl <;>
    exact ⟨rfl, by decide +kernel, by decide +kernel, by decide +kernel, by decide, rfl, by decide +kernel, by decide +kernel,
      by decide +kernel⟩
/-- R95: with two settle deadlines at one device time the link starts nothing at the first, whatever comes between, and chooses by the
rotation at the second, whichever it is. -/
theorem test_settle_first_waits :
    after (settling .warming 998#32) (.warmingSettleDeadline 0 1) (fun t => (t.link .one).transaction.map Transaction.bank) =
      some none := by decide +kernel
theorem test_settle_second_chooses :
    after (settledBank (settling .warming 998#32)) (.warmingSettleDeadline 0 1)
      (fun t => (t.link .one).transaction.map Transaction.bank) = some (some 0) := by decide +kernel
/-- Banks 0 and 2 fall due for a SURVEY in the same millisecond, 900 microseconds apart; the link's pointer stands at 7. -/
def surveying : State := { run with
  banks := (run.banks.set 0 { serving .active with surveyDue := some ⟨998#32, 0⟩ }).set 2
    { serving .active with surveyDue := some ⟨998#32, 900⟩ } }
/-- R95: with two survey due times at one device time the link chooses by the rotation at the second. -/
theorem test_survey_first_waits :
    after surveying (.surveyDue 0 0) (fun t => (t.link .one).transaction.map Transaction.bank) = some none := by decide +kernel
theorem test_survey_second_chooses :
    after surveying (.surveyDue 900 2) (fun t => (t.link .one).transaction.map Transaction.bank) = some (some 0) := by decide +kernel
/-- R186: the survey interval runs from the instant of the finish, the fraction of the millisecond included. -/
theorem test_survey_keeps_fraction :
    after (inFlight .survey .second) (.replyTimerExpiry 1999 .one false) (fun t => (t.bank 0).surveyDue) =
      some (some ⟨1049#32, 999⟩) := by decide +kernel
/-- A busy link; the microsecond before the deadline; and another bank's turn, its survey being due. -/
theorem witness_SettledBankStarts_others :
    let s := settling .switching 999#32
    let busy := { s with links := (inFlight .survey .first).links }
    let turn := { s with
      banks := s.banks.set 2 { serving .active with surveyDue := some ⟨997#32, 0⟩ }
      links := s.links.set .one { LinkCtl.reset with pointer := 1 } }
    (busy.bank 0).settle = some ⟨998#32, 0⟩ ∧ (busy.link .one).transaction.isSome = true ∧
      ¬ DueAt ({ s with clock := ⟨997#32, 999⟩ }.advance 0).clock ⟨998#32, 0⟩ ∧ (turn.link .one).transaction = none ∧
      (settledBank turn).heldBack .one = false ∧ (settledBank turn).choice .one = some 2 := by
  refine ⟨by decide +kernel, rfl, by decide, rfl, by decide +kernel, by decide +kernel⟩
/-- A bank with a due survey is a candidate,
  and a link whose banks have no work none; two deadlines that fall together hold the choice
back, the second alone too while the link remembers the first, and a busy link makes none. -/
theorem witness_RotationRule : run.choice .one = some 0 ∧ (run.link .one).transaction = none ∧ run.heldBack .one = false ∧
    run.choice .two = none ∧ (settling .warming 998#32).heldBack .one = true ∧
    (settledBank (settling .warming 998#32)).heldBack .one = true ∧ (settling .warming 999#32).heldBack .one = false ∧
    ((inFlight .load .first).link .one).transaction.isSome = true ∧ surveying.heldBack .one = true ∧
    (surveying.advance 900).heldBack .one = false := by decide +kernel
/-- One microsecond before the due time. -/
theorem witness_SurveyStarts_early : (surveying.bank 2).state = .active ∧ (surveying.bank 2).activeLink = some .one ∧
    (surveying.bank 2).surveyDue = some ⟨998#32, 900⟩ ∧ ¬ DueAt (surveying.advance 899).clock ⟨998#32, 900⟩ := by
  refine ⟨by decide +kernel, by decide +kernel, by decide +kernel, by decide⟩
theorem witness_SurveyStarts : run.inReset = false ∧ (run.bank 0).state = .active ∧ (run.bank 0).activeLink = some .one ∧
    (run.bank 0).surveyDue = some ⟨50#32, 0⟩ ∧ DueAt (run.advance 0).clock ⟨50#32, 0⟩ ∧ (run.link .one).transaction = none ∧
    (run.advance 0).heldBack .one = false ∧ (run.advance 0).choice .one = some 0 ∧
    (run.bank 0).pendingSet = Vector.replicate 8 false ∧ (run.bank 0).resync = false :=
  ⟨rfl, by decide +kernel, by decide +kernel, by decide +kernel, by decide, rfl, by decide +kernel, by decide +kernel,
    by decide +kernel, by decide +kernel⟩
/-- The exchange that `inFlight` awaits. -/
def flying (ph : Phase) (at_ : Attempt) : Exchange :=
  { phase := ph, tag := 9#8, loaded := if ph = .survey then [] else [⟨4, 200⟩], attempt := at_, link := .one }
theorem inFlight_waits (ph : Phase) (at_ : Attempt) : (inFlight ph at_).Waits .one 0 ⟨5, .one⟩ (flying ph at_) ⟨999#32, 0⟩ := by
  cases ph <;> cases at_ <;> exact ⟨rfl, by decide +kernel, by decide, by decide +kernel, by decide +kernel⟩
/-- The reply timer at its very microsecond, and one before it. -/
theorem witness_TransactionWaits (ph : Phase) :
    let s := inFlight ph .first
    s.Waits .one 0 ⟨5, .one⟩ (flying ph .first) ⟨999#32, 0⟩ ∧ (flying ph .first).attempt = .first ∧
      DueAt (s.clock.after 1000) ⟨999#32, 0⟩ ∧ ¬ DueAt (s.clock.after 999) ⟨999#32, 0⟩ :=
  ⟨inFlight_waits ph .first, rfl, by cases ph <;> decide, by cases ph <;> decide⟩
theorem witness_TransactionWaits_sending :
    let f : Frame := { address := 5, kind := .survey, tag := 9#8, entries := [] }
    let s := { run with links := ⟨{ LinkCtl.reset with transaction := some { bank := 0, frame := f, wait := .sending } },
                                  { LinkCtl.reset with discardNext := true }⟩ }
    s.inReset = false ∧ (s.link .one).transaction = some { bank := 0, frame := f, wait := .sending } ∧
      (s.link .one).discardNext = false ∧ (s.link .two).discardNext = true ∧ (run.link .one).transaction = none :=
  ⟨rfl, rfl, rfl, rfl, rfl⟩
/-- A reply with these entries, of the kind that answers the phase. -/
def replyBytes (ph : Phase) (es : List Entry) : List RxByte :=
  (frameBytes { address := 5, kind := answerKind ph, tag := 9#8, entries := es }).map (RxByte.mk · false)
theorem answers_length (x : Exchange) (es : List Entry) (bytes : List RxByte) (h : Answers 5 x es bytes) : 6 ≤ bytes.length := by
  rw [h.2.2.2.2, List.length_map]
  simp [frameBytes, frameBody, crcBytes]
theorem witness_EchoTransfers : (inFlight .load .first).Waits .one 0 ⟨5, .one⟩ (flying .load .first) ⟨999#32, 0⟩ ∧
    ((inFlight .load .first).link .one).discardNext = false ∧
    Answers 5 (flying .load .first) (flying .load .first).loaded (replyBytes .load [⟨4, 200⟩]) :=
  ⟨inFlight_waits _ _, rfl, by decide, by decide, by decide, trivial, rfl⟩
/-- A single byte is no reply. -/
theorem witness_EchoTransfers_fails (ph : Phase) : (inFlight ph .first).Waits .one 0 ⟨5, .one⟩ (flying ph .first) ⟨999#32, 0⟩ ∧
    (flying ph .first).attempt = .first ∧
    ∀ es, Answers 5 (flying ph .first) es [⟨0x5A#8, false⟩] → ph = .load ∧ es ≠ (flying ph .first).loaded :=
  ⟨inFlight_waits _ _, rfl, fun es h => absurd (answers_length _ _ _ h) (by decide)⟩
/-- Sensed 210 for the loaded 200 confirms it within the tolerance of 10, and 211 does not. -/
theorem witness_DoneConfirms :
    let s := inFlight .transfer .first
    s.Waits .one 0 ⟨5, .one⟩ (flying .transfer .first) ⟨999#32, 0⟩ ∧ (s.link .one).discardNext = false ∧
      Answers 5 (flying .transfer .first) [⟨4, 210⟩] (replyBytes .transfer [⟨4, 210⟩]) ∧
      confirms [⟨4, 210⟩] 4 200 (s.point 4) = true ∧
      Answers 5 (flying .transfer .first) [⟨4, 211⟩] (replyBytes .transfer [⟨4, 211⟩]) ∧
      confirms [⟨4, 211⟩] 4 200 (s.point 4) = false :=
  ⟨inFlight_waits _ _, rfl, ⟨by decide, by decide, by decide, rfl, rfl⟩, by decide +kernel,
    ⟨by decide, by decide, by decide, rfl, rfl⟩, by decide +kernel⟩
/-- The sensed values of a bank's eight slots: the applied 200 of slot 4 within 10, the 0 of slot 5 missed. -/
def sensedAll : List Entry := (List.finRange 8).map fun i => ⟨i, if i = 4 then 190 else 1000⟩
theorem witness_DoneConfirms_survey :
    let s := inFlight .survey .first
    s.Waits .one 0 ⟨5, .one⟩ (flying .survey .first) ⟨999#32, 0⟩ ∧ (s.link .one).discardNext = false ∧
      Answers 5 (flying .survey .first) sensedAll (replyBytes .survey sensedAll) ∧
      confirms sensedAll 4 200 (s.point 4) = true ∧ confirms sensedAll 5 0 (s.point 5) = false :=
  ⟨inFlight_waits _ _, rfl, ⟨by decide, by decide +kernel, by decide +kernel,
    show sensedAll.map Entry.slot = List.finRange 8 from by decide +kernel, rfl⟩, by decide +kernel, by decide +kernel⟩
/-- Attempt 2 fails by timeout at the very microsecond, by a reply that is none, and by an ECHO with another value; the strike is the
first, and the one that LINKSTRIKES 3 makes the last, with the other link GOOD and with it FAILED. -/
theorem witness_AbandonedSurveyStrikes (ph : Phase) :
    let s := inFlight ph .second
    s.Waits .one 0 ⟨5, .one⟩ (flying ph .second) ⟨999#32, 0⟩ ∧ (flying ph .second).attempt = .second ∧
      DueAt (s.clock.after 1000) ⟨999#32, 0⟩ ∧ (s.link .one).discardNext = false ∧
      (∀ es, ¬ Answers 5 (flying ph .second) es [⟨0x5A#8, false⟩]) ∧
      Answers 5 (flying .load .second) [⟨4, 201⟩] (replyBytes .load [⟨4, 201⟩]) ∧
      [Entry.mk 4 201] ≠ (flying .load .second).loaded :=
  ⟨inFlight_waits _ _, rfl, by cases ph <;> decide, by cases ph <;> rfl, fun es h => absurd (answers_length _ _ _ h) (by decide),
    ⟨by decide, by decide, by decide, trivial, rfl⟩, by decide⟩
theorem witness_AbandonedSurveyStrikes_struck :
    let s := inFlight .survey .second
    let hit (m : Mark) := { s with banks := s.banks.set 0 { s.bank 0 with links := ⟨⟨.good, 2, 0⟩, ⟨m, 0, 0⟩⟩ } }
    ((s.bank 0).links.get .one).strikes + 1 ≠ s.settings.linkstrikes ∧
      (((hit .good).bank 0).links.get .one).strikes + 1 = (hit .good).settings.linkstrikes ∧
      (((hit .good).bank 0).links.get LinkNo.one.other).mark = .good ∧
      (((hit .failed).bank 0).links.get LinkNo.one.other).mark = .failed := by decide +kernel

/-- A log that holds the records with serials 4294967294, 4294967295 and 1; lane A has acknowledged the first. -/
def wrapped : FaultLog :=
  let r (n : Nat) : Record := { serial := BitVec.ofNat 32 n, time := 7#32, event := { code := .quiet } }
  { ring := [r 4294967294, r 4294967295, r 1], next := 2#32, cursors := ⟨4294967295#32, 4294967294#32, 2#32⟩, gaps := ⟨0, 3, 255⟩ }
theorem serials_of_all {xs : List Serial} (h : (xs.all fun x => decide (x ≠ 0#32)) = true) : ∀ x ∈ xs, x ≠ 0#32 :=
  fun x hx => of_decide_eq_true (List.all_eq_true.mp h x hx)
theorem wrapped_ok : wrapped.Ok :=
  ⟨by decide, serials_of_all (by decide +kernel), by decide +kernel, fun l => by cases l <;> decide +kernel,
    fun l => by cases l <;> decide +kernel⟩
/-- A full ring. -/
def full : FaultLog := { wrapped with
  ring := (List.range 64).map fun i => { serial := BitVec.ofNat 32 (i + 1), time := 7#32, event := { code := .quiet } }
  next := 65#32, cursors := ⟨1#32, 2#32, 65#32⟩, gaps := ⟨255, 0, 0⟩ }
theorem witness_AppendAndDrop : wrapped.ring.length < 64 ∧ full.Ok ∧ full.ring.length = 64 ∧
    full.ring = { serial := 1#32, time := 7#32, event := { code := .quiet } } :: full.ring.tail ∧ full.cursors.get .a = 1#32 ∧
    full.cursors.get .b ≠ 1#32 :=
  ⟨by decide, ⟨by decide +kernel, serials_of_all (by decide +kernel), by decide +kernel, fun l => by cases l <;> decide +kernel,
    fun l => by cases l <;> decide +kernel⟩, by decide +kernel, by decide +kernel, by decide, by decide⟩
theorem witness_FaultsReads :
    let s := { run with log := wrapped }
    s.Expects .b 5#8 ∧ s.log.Ok ∧ s.log.ring = [] ++ wrapped.ring ∧
      s.log.cursors.get .b = (wrapped.ring.head?.map Record.serial).getD s.log.next :=
  ⟨⟨⟨rfl, rfl, rfl, rfl, rfl⟩, rfl⟩, wrapped_ok, rfl, by decide⟩
/-- The cursor at a held record, and past them all. -/
theorem witness_AckMoves :
    let s := { run with log := wrapped }
    s.Expects .a 5#8 ∧ s.log.Ok ∧ s.log.ring = wrapped.ring.take 1 ++ wrapped.ring.drop 1 ∧
      s.log.cursors.get .a = ((wrapped.ring.drop 1).head?.map Record.serial).getD s.log.next ∧
      readDecimal 10 (asc "4294967295") = some 4294967295 ∧ (∃ r ∈ wrapped.ring.drop 1, r.serial.toNat = 4294967295) ∧
      readDecimal 10 (asc "4294967294") = some 4294967294 ∧ (∀ r ∈ wrapped.ring.drop 1, r.serial.toNat ≠ 4294967294) ∧
      readDecimal 10 (asc "x") = none ∧ s.log.cursors.get .c = (([] : List Record).head?.map Record.serial).getD s.log.next := by
  refine ⟨⟨⟨rfl, rfl, rfl, rfl, rfl⟩, rfl⟩, wrapped_ok, rfl, by decide, by decide +kernel, by decide +kernel, by decide +kernel,
    by decide +kernel,
    by decide +kernel, by decide⟩
theorem witness_SequenceDecision :
    let m : Stored := { line := requestText 4#8 (verbText .leave) [], body := [asc "OK", asc "LEFT"] }
    let s := { run with ports := run.ports.set .a { run.port .a with stored := some m } }
    s.Listens .a ∧ resynchronises .leave = false ∧
      Sends (.leave 0 .a 4#8 []) (requestText 4#8 (verbText .leave) []) (verbText .leave) 0 .a 4#8 [] ∧
      (s.port .a).expected = some (4#8 + 1#8) ∧
      (s.port .a).stored = some { line := requestText 4#8 (verbText .leave) [], body := [asc "OK", asc "LEFT"] } ∧
      (5#8 : Byte) ≠ 7#8 ∧ (5#8 : Byte) ≠ 7#8 + 1#8 ∧ m.line ≠ requestText 4#8 (verbText .lanes) [] ∧
      State.reset.Listens .a ∧ (State.reset.port .a).expected = none :=
  ⟨⟨rfl, rfl, rfl, rfl, rfl⟩, rfl, .inl ⟨rfl, .inl ⟨.leave, rfl, .inl rfl⟩⟩, by decide +kernel, rfl, by decide, by decide, by decide +kernel,
    ⟨rfl, rfl, rfl, rfl, rfl⟩, rfl⟩
theorem spelled_spells : Spells spelled 10#8 (verbText .stage) [asc "12", asc "4=250", asc "5=1"] :=
  ⟨48#8, 97#8, [0, 2, 0], 1, asc "2cd3", by decide +kernel⟩
/-- The same line as the one last taken, repeated character for character, and the canonical spelling of it, which is another. -/
theorem witness_SequenceDecision_spelled :
    let m : Stored := { line := spelled, body := [asc "OK", asc "STAGED", asc "12", asc "2"] }
    let s := { run with ports := run.ports.set .a { run.port .a with expected := some 11#8, stored := some m } }
    let fields := [asc "12", asc "4=250", asc "5=1"]
    s.Listens .a ∧ Sends (.lineEnd 0 .a (lineChars spelled)) spelled (verbText .stage) 0 .a 10#8 fields ∧
      (s.port .a).expected = some (10#8 + 1#8) ∧ (s.port .a).stored = some { line := spelled, body := m.body } ∧
      Sends (.stage 0 .a 10#8 fields) (requestText 10#8 (verbText .stage) fields) (verbText .stage) 0 .a 10#8 fields ∧
      m.line ≠ requestText 10#8 (verbText .stage) fields :=
  ⟨⟨rfl, rfl, rfl, rfl, rfl⟩, .inr ⟨spelled_spells, rfl⟩, by decide +kernel, rfl, .inl ⟨rfl, .inl ⟨.stage, rfl, .inl rfl⟩⟩,
    by decide +kernel⟩
/-- The premise on the verb holds of an unknown verb, and of BANK as the removal spells it. -/
theorem witness_SequenceDecision_others :
    IsLine (.unknownVerb 0 .a 4#8 (asc "HELLO") []) (asc "HELLO") 0 .a 4#8 [] ∧
    (∀ v, asc "HELLO" = verbText v → resynchronises v = false) ∧
    IsLine (.bankRemoval 0 .a 4#8 (asc "7")) (verbText .bank) 0 .a 4#8 [asc "7", asc "NONE"] ∧
    ∀ v, verbText .bank = verbText v → resynchronises v = false :=
  ⟨.inr rfl, fun v h => (by cases v <;> first | rfl | exact absurd h (by decide +kernel)),
    .inl ⟨.bank, rfl, .inr ⟨rfl, _, rfl, rfl⟩⟩, fun v h => (by cases v <;> first | rfl | exact absurd h (by decide +kernel))⟩
theorem witness_PortAnswers :
    let s := runLane .b { laneIn .excluded with quiet := none }
    s.Listens .b ∧ IsRequest (.join 0 .b 9#8 []) .join 0 .b 9#8 [] ∧ resynchronises .join = true ∧ s.role .b = .excluded ∧
      Verb.join ∉ [Verb.status, .lanes, .points, .banks, .round, .digest, .faults, .ack] ∧
      IsRequest (.bankRemoval 0 .b 5#8 (asc "7")) .bank 0 .b 5#8 [asc "7", asc "NONE"] ∧ (s.port .b).expected = some 5#8 ∧
      Verb.bank ∉ [Verb.status, .lanes, .points, .banks, .round, .digest, .faults, .ack] ∧ s.Expects .b 5#8 ∧
      ∀ v, verbText v ≠ asc "HELLO" :=
  ⟨⟨rfl, rfl, rfl, rfl, rfl⟩, .inl rfl, rfl, rfl, by decide, .inr ⟨rfl, _, rfl, rfl⟩, rfl, by decide, ⟨⟨rfl, rfl, rfl, rfl, rfl⟩,
    rfl⟩,
    fun v => by cases v <;> decide +kernel⟩
theorem witness_LineEndIsRequest : goodRequest 255#8 (verbText .stage) [asc "12", asc "4=250"] = true ∧
    IsLine (.stage 0 .a 255#8 [asc "12", asc "4=250"]) (verbText .stage) 0 .a 255#8 [asc "12", asc "4=250"] ∧
    goodRequest 0#8 (asc "stage") [] = true ∧ IsLine (.unknownVerb 0 .a 0#8 (asc "stage") []) (asc "stage") 0 .a 0#8 [] :=
  ⟨by decide +kernel, .inl ⟨.stage, rfl, .inl rfl⟩, by decide +kernel, .inr rfl⟩
/-- A line in another spelling that is expected, and one of a resynchronising verb with any number. -/
theorem witness_LineEndIsRequest_spelled :
    let s := { run with ports := run.ports.set .a { run.port .a with expected := some 10#8 } }
    Spells spelled 10#8 (verbText .stage) [asc "12", asc "4=250", asc "5=1"] ∧
      IsLine (.stage 0 .a 10#8 [asc "12", asc "4=250", asc "5=1"]) (verbText .stage) 0 .a 10#8 [asc "12", asc "4=250", asc "5=1"] ∧
      s.Listens .a ∧ (s.port .a).expected = some 10#8 ∧ verbText .status = verbText .status ∧ resynchronises .status = true :=
  ⟨spelled_spells, .inl ⟨.stage, rfl, .inl rfl⟩, ⟨rfl, rfl, rfl, rfl, rfl⟩, rfl, rfl, rfl⟩
/-- An over-length line, a line with two waiting, and a request; a voter whose next strike is the last,
  in mid round; and the rest of an
over-length line. -/
theorem witness_LineDiscarded :
    let two := [mkRequest 5#8 (verbText .leave) [], mkRequest 6#8 (verbText .leave) []]
    let s := { run with
      lanes := ⟨laneIn .inControl, { laneIn .standby with strikes := 2 }, laneIn .absent⟩
      ports := ⟨LanePort.reset, { LanePort.reset with queue := two }, { LanePort.reset with dropping := true }⟩ }
    s.inReset = false ∧ (s.role .a).voting = true ∧ (s.lane .a).strikes + 1 ≠ s.settings.strikes ∧
      (s.port .a).dropping = false ∧ (s.port .a).queue.length < 2 ∧ (s.role .b).voting = true ∧
      (s.lane .b).strikes + 1 = s.settings.strikes ∧ s.mode = .run ∧ s.collecting = some Collecting.empty ∧
      (s.port .b).dropping = false ∧ 2 ≤ (s.port .b).queue.length ∧
      IsLine (.leave 0 .b 5#8 []) (verbText .leave) 0 .b 5#8 [] ∧ (s.role .c).voting = false ∧ (s.port .c).dropping = true ∧
      IsLine (.status 0 .c 5#8 []) (verbText .status) 0 .c 5#8 [] :=
  ⟨rfl, rfl, by decide, rfl, by decide, rfl, rfl, rfl, rfl, rfl, by decide, .inl ⟨.leave, rfl, .inl rfl⟩, rfl, rfl,
    .inl ⟨.status, rfl, .inl rfl⟩⟩
/-- A line of which only its LF was received damaged fails the damage check; LF alone has not the shape of a line. -/
theorem witness_LineDiscarded_early : FailsLine [⟨10#8, true⟩] .check ∧ FailsLine [⟨10#8, false⟩] .form := by
  refine ⟨.inl ⟨⟨_, List.mem_singleton_self _, rfl⟩, rfl⟩, .inr (.inl ⟨by simp, fun covered crc h => ?_, rfl⟩)⟩
  obtain ⟨digits, h, -⟩ := h
  have g := congrArg List.length h
  simp at g
  omega
/-- `: *E0DE` has the shape of a line: with the CRC of `: ` it has no sequence number, and with another it fails the CRC check. -/
theorem witness_LineDiscarded_late (crc : Nat) (digits : Text) (h : readHex 4 digits = some crc) :
    let line := (asc ": " ++ charStar :: digits ++ [charCR, charLF]).map (RxByte.mk · false)
    ((crc16 (asc ": ")).toNat ≠ crc → FailsLine line .check) ∧ ((crc16 (asc ": ")).toNat = crc → FailsLine line .form) := by
  have shaped : ShapedLine (((asc ": " ++ charStar :: digits ++ [charCR, charLF]).map (RxByte.mk · false)).map RxByte.value)
      (asc ": ") crc := by
    refine ⟨digits, ?_, h, by decide, by decide, by decide +kernel⟩
    rw [List.map_map]; exact List.map_id _
  have clean : ¬ ∃ x ∈ (asc ": " ++ charStar :: digits ++ [charCR, charLF]).map (RxByte.mk · false), x.damaged = true := by
    rintro ⟨x, hx, hd⟩
    obtain ⟨y, -, rfl⟩ := List.mem_map.mp hx
    cases hd
  refine ⟨fun hc => .inr (.inr ⟨clean, _, _, shaped, .inl ⟨hc, rfl⟩⟩),
    fun hc => .inr (.inr ⟨clean, _, _, shaped, .inr ⟨hc, fun g => ?_, rfl⟩⟩)⟩
  obtain ⟨a, b, v, rest, g, -⟩ := g
  exact absurd (congrArg List.length g) (by simp [show (asc ": ").length = 2 from by decide])
theorem witness_LineDiscarded_digits : readHex 4 (asc "0000") = some 0 := by decide +kernel
theorem witness_ReplyEndTakesNext :
    let busy : LanePort := { LanePort.reset with sending := some { seq := 4#8, body := [], unread := 0 } }
    let s := { run with ports := ⟨busy, { busy with queue := [mkRequest 5#8 (verbText .leave) []] }, LanePort.reset⟩ }
    s.inReset = false ∧ (s.port .a).sending.isSome = true ∧ (s.port .a).queue = [] ∧ (s.port .a).assembling = [] ∧
      (s.port .a).dropping = false ∧ (s.port .b).sending.isSome = true ∧
      (s.port .b).queue = mkRequest 5#8 (verbText .leave) [] :: [] ∧ (s.port .b).queue.length < 2 ∧
      Sends (.leave 0 .b 5#8 []) (requestText 5#8 (verbText .leave) []) (verbText .leave) 0 .b 5#8 [] ∧
      Sends (.lineEnd 0 .b (lineChars spelled)) spelled (verbText .stage) 0 .b 10#8 [asc "12", asc "4=250", asc "5=1"] :=
  ⟨rfl, rfl, rfl, rfl, rfl, rfl, rfl, by decide, .inl ⟨rfl, .inl ⟨.leave, rfl, .inl rfl⟩⟩, .inr ⟨spelled_spells, rfl⟩⟩
theorem witness_ReportsWhole : run.Listens .a ∧ (run.port .a).expected = some 5#8 := ⟨⟨rfl, rfl, rfl, rfl, rfl⟩, rfl⟩
/-- The first and the last number of each table, and the numbers beside the largest length. -/
theorem witness_ReportsRuns : run.Expects .a 5#8 ∧ readNumber (asc "63") = some 63 ∧ readNumber (asc "64") = some 64 ∧
    readNumber (asc "7") = some 7 ∧ readNumber (asc "0") = some 0 ∧ readNumber (asc "8") = some 8 ∧ readNumber (asc "9") = some 9 ∧
    readNumber (asc "4") = some 4 ∧ readNumber (asc "5") = some 5 ∧ readNumber (asc "1") = some 1 ∧ readNumber (asc "x") = none :=
  ⟨⟨⟨rfl, rfl, rfl, rfl, rfl⟩, rfl⟩, by decide +kernel⟩
theorem witness_ResetValues : { State.reset with inReset := true }.inReset = true ∧ elapsed (.pgFall 0 .a) ≠ none := ⟨rfl, by decide⟩
/-- A line sampled LOW among the three. -/
theorem witness_ResetHoldsLaws :
    let power : PerLane PowerLine := ⟨.high, .low, .high⟩
    ∀ l, power.get l ≠ .confirming := fun l => by cases l <;> decide
theorem witness_FrameRoundTrip :
    let f : Frame := { address := 31, kind := .state, tag := 255#8, entries := List.replicate 8 ⟨7, 4095⟩ }
    f.address ≤ 31 ∧ f.entries.length ≤ 8 ∧ ∀ y ∈ f.entries, y.value ≤ 4095 := by decide

/-! The laws that every step keeps hold of this state, which has a next. -/

/-- `run` with a power-good edge waiting. -/
def live : State := { run with pending := [.pgFall 5 .a] }
theorem witness_step : ∃ t, step live = .next t := ⟨_, rfl⟩
theorem witness_DigestKept : ∃ t, State.reset.DigestOk ∧ step { State.reset with pending := [.pgFall 5 .a] } = .next t :=
  ⟨_, test_reset_digest.symm, rfl⟩
theorem live_point (p : PointNo) : live.point p =
    if p = 4 then settled (level 0 4095 10 0) 200
    else if p = 5 then settled { kind := .discrete, min := 0, max := 1, tol := 0, safe := 0 } 0
    else if p = 6 then settled (level 0 4095 5 0) 1000 else PointRec.blank := by revert p; decide +kernel
theorem live_bank (b : BankNo) : live.bank b = if b = 0 then serving .active else BankRec.blank := by revert b; decide +kernel
theorem live_inUse (b : BankNo) : live.inUse b = decide (b = 0) := by revert b; decide +kernel
theorem live_slot (p : PointNo) : live.slotPending p = false := by revert p; decide +kernel
theorem live_role (l : Lane) : live.lane l = if l = .a then laneIn .inControl else laneIn .standby := by cases l <;> rfl
theorem live_bankOf (p : PointNo) (h : p = 4 ∨ p = 5 ∨ p = 6) : bankOf p = 0 := by rcases h with rfl | rfl | rfl <;> rfl

theorem witness_LogKept : live.log.Ok :=
  ⟨by decide, fun x h => by obtain rfl := List.mem_singleton.mp h; decide, by decide, fun l => by cases l <;> decide,
    fun l => by cases l <;> decide⟩
theorem witness_RolesKept : live.RolesOk where
  configure h := by cases h
  safe h := by cases h
  run _ := ⟨.a, .inl rfl⟩
  oneControl l m h g := by
    have e : ∀ x, live.role x = .inControl → x = .a := by intro x h; cases x <;> first | rfl | exact absurd h (by decide)
    rw [e l h, e m g]
  control l h := ⟨.a, rfl⟩
  collecting := ⟨fun _ => rfl, fun _ => rfl⟩
  session l h := by cases h
  idle := rfl
  quiet l := by cases l <;> rfl
  confirm l := by cases l <;> decide
  wait l h := by cases l <;> cases h
  held l h := by cases l <;> cases h
  free l _ := by cases l <;> exact ⟨rfl, rfl, rfl, rfl⟩
theorem witness_RoundKept : live.RoundOk where
  cleared h := by cases h
  number _ := by decide
  bound := by decide
  timer c h := by cases h; decide
  unseated c l h g := by cases l <;> cases g
  staged c l p v h g := by
    cases h
    have e : ∀ l p, Collecting.empty.slot l p = none := by intro l; cases l <;> decide +kernel
    rw [e] at g; cases g
  waiting c h := by cases h; rfl
theorem witness_CountsKept : live.CountsOk where
  settings n := by cases n <;> decide
  strikes l := by cases l <;> decide
  carried l n h := by cases l <;> cases h
  carriedStreak l n h := by cases l <;> cases h
  nonvoter l h := by cases l <;> cases h
  probation l := by cases l <;> decide
  outside l _ := by cases l <;> exact ⟨rfl, rfl⟩
  suspensions l := by cases l <;> decide
  links b k := by rw [live_bank]; split <;> cases k <;> decide
theorem witness_BanksKept : live.BanksOk where
  enable b := by rw [live_bank]; split <;> decide
  configure h := by cases h
  used _ b := by rw [live_bank, live_inUse]; split <;> simp_all [serving, BankRec.blank]
  defined _ := by decide +kernel
  address b d h := by rw [live_bank] at h; split at h <;> cases h; decide
  unique b c d e h g _ := by
    rw [live_bank] at h g; split at h <;> split at g <;> simp_all [serving, BankRec.blank]
  active b := by rw [live_bank]; split <;> decide
  good b k h := by rw [live_bank] at h ⊢; split at h <;> cases k <;> simp_all [serving, BankRec.blank] <;> rfl
  failed b k h := by rw [live_bank] at h; split at h <;> cases h
  settle b := by rw [live_bank]; split <;> decide
  resync b h := by rw [live_bank] at h; split at h <;> cases h
  exchange b x h := by rw [live_bank] at h; split at h <;> cases h
  transaction k t h := by cases k <;> cases h
  served k b _ _ _ _ _ h := by
    rw [live_bank] at h; rcases h with ⟨i, h⟩ | h <;> split at h
    all_goals first | cases h | simp [serving, BankRec.blank, noSlots] at h
theorem witness_PointsKept : live.PointsOk where
  definition p d h := by rw [live_point] at h; split_ifs at h <;> cases h <;> exact ⟨by decide, by decide, by simp [level]⟩
  blank p h := by rw [live_point] at h ⊢; split_ifs at h ⊢ <;> first | rfl | cases h
  configure h := by cases h
  running _ p h := by
    rw [live_point] at h ⊢; split_ifs at h ⊢ <;> first | exact ⟨rfl, by decide, by decide⟩ | cases h
  target p d v h g := by rw [live_point] at h g; split_ifs at h g <;> cases h <;> cases g <;> decide
  applied p d v h g := by rw [live_point] at h g; split_ifs at h g <;> cases h <;> cases g <;> decide
  splits p := by rw [live_point]; split_ifs <;> decide
  safe h := by cases h
  settled p h := by rw [live_point] at h ⊢; split_ifs at h ⊢ <;> rfl
  pending p h := by rw [live_point] at h; split_ifs at h <;> cases h
  work p h := by rw [live_point] at h; split_ifs at h <;> cases h
  members p h := by rw [live_slot] at h; cases h
  off p := by
    rw [live_point, live_bank]; split_ifs <;> simp [settled, PointRec.blank, PointRec.defined, serving, BankRec.blank]
  offApplied p h := by rw [live_point] at h; split_ifs at h <;> cases h
  loading p := by
    rw [live_point, live_bank]; split_ifs <;> simp [settled, PointRec.blank, serving, BankRec.blank]
  loaded b x h := by rw [live_bank] at h; split at h <;> cases h

end Sys2Proof.Tests
end

section
/-! The target write of R9, the vote on one point (R31 to R34) and the taking of its result (R10): one lemma for each row, outcome
and effect, and the two statements assembled from them. -/

namespace Sys2Proof.Machine

/-! ## The target write: one equation for each row of R9 -/

section targetWrite
variable {v : Nat} {r : PointRec} (member : Bool)

theorem writeTarget_same (h : r.target = some v) : writeTarget v r member = (r, member) := if_pos h

theorem writeTarget_settled (h : r.target ≠ some v) (hs : r.state = .settled) :
    writeTarget v r member = ({ r with target := some v, state := .pending }, true) := by
  simp [writeTarget, h, hs]

theorem writeTarget_pending (h : r.target ≠ some v) (hs : r.state = .pending) (ha : r.applied ≠ some v) :
    writeTarget v r member = ({ r with target := some v }, true) := by
  simp [writeTarget, h, hs, ha]

/-- A PENDING point whose target returns to the applied value has nothing left to send. -/
theorem writeTarget_pending_applied (h : r.target ≠ some v) (hs : r.state = .pending) (ha : r.applied = some v) :
    writeTarget v r member = ({ r with target := some v, state := .settled }, false) := by
  simp [writeTarget, h, hs, ha]

theorem writeTarget_loading (h : r.target ≠ some v) (hs : r.state = .loading) :
    writeTarget v r member = ({ r with target := some v }, true) := by
  simp [writeTarget, h, hs]

theorem writeTarget_off (h : r.target ≠ some v) (hs : r.state = .off) :
    writeTarget v r member = ({ r with target := some v }, member) := by
  simp [writeTarget, h, hs]

/-- No write reaches an INERT or UNDEFINED point (R3). -/
theorem writeTarget_untargeted (hs : r.state = .inert ∨ r.state = .undefined) : writeTarget v r member = (r, member) := by
  rcases hs with hs | hs <;> simp [writeTarget, hs]

/-- All that a target write can do to a record: nothing, or a new target and a state; no other field moves. -/
theorem writeTarget_cases (v : Nat) (r : PointRec) (member : Bool) :
    (writeTarget v r member = (r, member) ∧ (r.target = some v ∨ r.state = .inert ∨ r.state = .undefined)) ∨
    ∃ st m, writeTarget v r member = ({ r with target := some v, state := st }, m) := by
  by_cases h : r.target = some v
  · exact .inl ⟨writeTarget_same member h, .inl h⟩
  cases hs : r.state with
  | undefined => exact .inl ⟨writeTarget_untargeted member (.inr hs), by simp⟩
  | inert => exact .inl ⟨writeTarget_untargeted member (.inl hs), by simp⟩
  | settled => exact .inr ⟨.pending, true, writeTarget_settled member h hs⟩
  | loading => exact .inr ⟨r.state, true, writeTarget_loading member h hs⟩
  | off => exact .inr ⟨r.state, member, writeTarget_off member h hs⟩
  | pending =>
    by_cases ha : r.applied = some v
    · exact .inr ⟨.settled, false, writeTarget_pending_applied member h hs ha⟩
    · exact .inr ⟨r.state, true, writeTarget_pending member h hs ha⟩

@[simp] theorem writeTarget_splits (v : Nat) (r : PointRec) : (writeTarget v r member).1.splits = r.splits := by
  obtain ⟨h, -⟩ | ⟨_, _, h⟩ := writeTarget_cases v r member <;> rw [h]

/-- A point that can have a target has the written value as its target, changed or not. -/
theorem writeTarget_target (hi : r.state ≠ .inert) (hu : r.state ≠ .undefined) :
    (writeTarget v r member).1.target = some v := by
  obtain ⟨h, ht | hs | hs⟩ | ⟨_, _, h⟩ := writeTarget_cases v r member
  · rw [h, ht]
  · exact absurd hs hi
  · exact absurd hs hu
  · rw [h]

end targetWrite

/-- Settles O23: the rows of R9, one lemma each. -/
theorem targetWrite : Obligations.TargetWrite := fun _ _ member =>
  ⟨writeTarget_same member, fun h =>
    ⟨writeTarget_settled member h, writeTarget_pending member h, writeTarget_pending_applied member h,
      writeTarget_loading member h, writeTarget_off member h⟩⟩

/-! ## The median and the distance from it -/

/-- The model's sum of truncated differences is the distance the statements write as a maximum: one of the two is 0. -/
theorem apart_eq_max (x y : Nat) : apart x y = max (x - y) (y - x) := by unfold apart; omega

@[simp] theorem apart_self (x : Nat) : apart x x = 0 := by simp [apart]

theorem median3_eq (x y z : Nat) : median3 x y z = x ∨ median3 x y z = y ∨ median3 x y z = z := by
  unfold median3; omega

/-- At most one of three values lies below their median. -/
theorem countP_lt_median3 (x y z : Nat) : [x, y, z].countP (· < median3 x y z) ≤ 1 := by
  simp only [List.countP_cons, List.countP_nil, decide_eq_true_iff]
  unfold median3
  split_ifs <;> omega

/-- At most one of three values lies above their median. -/
theorem countP_median3_lt (x y z : Nat) : [x, y, z].countP (median3 x y z < ·) ≤ 1 := by
  simp only [List.countP_cons, List.countP_nil, decide_eq_true_iff]
  unfold median3
  split_ifs <;> omega

/-! ## The vote with three voters (R32) -/

/-- The opinions beyond tolerance of `m`, with their lanes: the dissents of a vote of three. -/
def beyond (tol m : Nat) (opinions : List (Lane × Nat)) : List (Lane × Nat) :=
  opinions.filter fun o => tol < max (o.2 - m) (m - o.2)

/-- An opinion that is `m` itself is not beyond tolerance of `m`. -/
theorem length_beyond_lt (tol : Nat) {opinions : List (Lane × Nat)} {o : Lane × Nat} (h : o ∈ opinions) :
    (beyond tol o.2 opinions).length < opinions.length :=
  List.length_filter_lt_length_iff_exists.mpr ⟨o, h, by simp⟩

/-- The median is one of the opinions, so at most two voters dissent. -/
theorem length_beyond_median3_le (tol : Nat) (l m n : Lane) (x y z : Nat) :
    (beyond tol (median3 x y z) [(l, x), (m, y), (n, z)]).length ≤ 2 := by
  apply Nat.le_of_lt_succ
  rcases median3_eq x y z with h | h | h <;> rw [h]
  · exact length_beyond_lt tol (o := (l, x)) (by simp)
  · exact length_beyond_lt tol (o := (m, y)) (by simp)
  · exact length_beyond_lt tol (o := (n, z)) (by simp)

theorem filter_apart (tol m : Nat) (opinions : List (Lane × Nat)) :
    (opinions.filter fun o => tol < apart o.2 m) = beyond tol m opinions := by
  simp only [beyond, apart_eq_max]

section three
variable {tol m : Nat} {opinions : List (Lane × Nat)}

theorem voteThree_agree (h : beyond tol m opinions = []) :
    voteThree tol opinions m = { outcome := .agree, target := some m, dissenter := none } := by
  rw [voteThree, filter_apart, h]

theorem voteThree_majority {l : Lane} {w : Nat} (h : beyond tol m opinions = [(l, w)]) :
    voteThree tol opinions m = { outcome := .majority, target := some m, dissenter := some l } := by
  rw [voteThree, filter_apart, h]

theorem voteThree_nomajority (h : (beyond tol m opinions).length = 2) :
    voteThree tol opinions m = { outcome := .nomajority, target := none, dissenter := none } := by
  obtain ⟨o, q, hb⟩ := List.length_eq_two.mp h
  rw [voteThree, filter_apart, hb]

end three

/-! ## The vote with two voters (R33) -/

/-- The second voter of two is the reference where it is in control; otherwise the first is, in control or first in the order. -/
theorem votePoint_two (tol : Nat) (control : Option Lane) (l m : Lane) (x y : Nat) :
    votePoint tol control [(l, x), (m, y)] =
      { outcome := if max (x - y) (y - x) ≤ tol then .pair else .split
        target := some (if control = some m then y else x), dissenter := none } := by
  by_cases h : control = some m
  · simp [votePoint, voteTwo, apart_eq_max, h]
  · simp [votePoint, voteTwo, apart_eq_max, h, max_comm]

/-! ## Taking a result (R10) -/

theorem VoteOutcome.splits_iff (o : VoteOutcome) : o.splits = true ↔ o = .nomajority ∨ o = .split := by
  cases o <;> decide

section taking
variable {v : PointVote} (round : Nat) (r : PointRec) (member : Bool)

/-- A result without a value moves the split count alone. -/
theorem takeResult_none (h : v.target = none) :
    takeResult round v r member =
      ({ r with splits := if v.outcome.splits then min (r.splits + 1) Config.maxSplits else r.splits }, member) := by
  unfold takeResult
  rw [h]
  cases v.outcome.splits <;> rfl

/-- A result with a value is a target write, dated where it changes the target, and the split count beside it. -/
theorem takeResult_some {x : Nat} (h : v.target = some x) :
    takeResult round v r member =
      ({ (writeTarget x r member).1 with
         changed := if r.target = some x then r.changed else some round
         splits := if v.outcome.splits then min (r.splits + 1) Config.maxSplits else r.splits },
        (writeTarget x r member).2) := by
  have kept := writeTarget_splits member x r
  unfold takeResult
  rw [h]
  by_cases same : r.target = some x
  · simp only [changesTarget, same, ne_eq, not_true, decide_false, writeTarget_same, if_true]
    cases v.outcome.splits <;> cases r <;> cases same <;> rfl
  · simp only [changesTarget, same, ne_eq, not_false_eq_true, decide_true, if_true, if_false, kept]
    cases v.outcome.splits
    · rw [← kept]; rfl
    · rfl

end taking

/-! ## The statement -/

/-- Settles O22: the median meets its characterisation and the vote of three goes by the dissents from it; the votes of two, one and
none go by their equations; a result moves the point through its target write. -/
theorem voteOnAPoint : Obligations.VoteOnAPoint := by
  refine ⟨fun tol _ x y z => ?three, fun tol control l m x y _ => votePoint_two tol control l m x y,
    fun _ _ _ _ => rfl, fun _ _ => rfl, fun round v r member => ⟨fun hv => ?without, fun x hv => ?value⟩⟩
  case three =>
    exact ⟨median3 x y z, median3_eq x y z, countP_lt_median3 x y z, countP_median3_lt x y z,
      length_beyond_median3_le tol .a .b .c x y z, voteThree_agree, fun _ _ => voteThree_majority, voteThree_nomajority⟩
  case without =>
    simp only [takeResult_none round r member hv, VoteOutcome.splits_iff, Config.maxSplits]
  case value =>
    have taken := takeResult_some round r member hv
    refine ⟨?_, fun hi hu => ?_⟩
    · simp only [taken, VoteOutcome.splits_iff, Config.maxSplits]
    · rw [taken]; exact writeTarget_target member hi hu

end Sys2Proof.Machine
end

section
/-! STAGE (R20 to R23): what a stored pair and a row of stored pairs leave in the slots, when each check of R22 passes, and the
accepted request assembled from them. -/

namespace Sys2Proof.Machine

/-! ## The stage slots -/

section slots
variable (c : Collecting) (l m : Lane) (p r : PointNo)

@[simp] theorem Collecting.put_sealed (v : Nat) : (c.put l p v).sealed = c.sealed := rfl
@[simp] theorem Collecting.put_timer (v : Nat) : (c.put l p v).timer = c.timer := rfl

theorem Collecting.put_slot (v : Nat) : (c.put l p v).slot m r = if m = l ∧ r = p then some v else c.slot m r := by
  unfold Collecting.put Collecting.slot
  by_cases hm : m = l
  · subst hm
    simp [Vector.getElem_set, eq_comm, Fin.ext_iff]
  · simp [PerLane.get_set_ne, hm]

@[simp] theorem Collecting.putAll_nil : c.putAll l [] = c := rfl
@[simp] theorem Collecting.putAll_cons (x : Nat × Nat) (ps : List (Nat × Nat)) :
    c.putAll l (x :: ps) = (c.put l (Fin.ofNat 64 x.1) x.2).putAll l ps := rfl

@[simp] theorem Collecting.putAll_sealed (ps : List (Nat × Nat)) : (c.putAll l ps).sealed = c.sealed := by
  induction ps generalizing c with
  | nil => rfl
  | cons x ps ih => simp [ih]

@[simp] theorem Collecting.putAll_timer (ps : List (Nat × Nat)) : (c.putAll l ps).timer = c.timer := by
  induction ps generalizing c with
  | nil => rfl
  | cons x ps ih => simp [ih]

/-- Another lane's slots are not touched. -/
theorem Collecting.putAll_slot_other (ps : List (Nat × Nat)) (h : m ≠ l) : (c.putAll l ps).slot m p = c.slot m p := by
  induction ps generalizing c with
  | nil => rfl
  | cons x ps ih => simp [ih, Collecting.put_slot, h]

end slots

/-- The last pair of a list that names the point `p`: the one that stands (R20). -/
def lastPair (ps : List (Nat × Nat)) (p : PointNo) : Option (Nat × Nat) := ps.reverse.find? fun x => x.1 = p.val

/-- A pair stands unless a later one names its point too. -/
theorem lastPair_cons (x : Nat × Nat) (ps : List (Nat × Nat)) (p : PointNo) :
    lastPair (x :: ps) p = (lastPair ps p).or (if x.1 = p.val then some x else none) := by
  simp [lastPair, List.find?_append, List.find?_singleton]

/-- The lane's own slots hold the last pair of each point, and what they held where no pair names the point. -/
theorem Collecting.putAll_slot_self (c : Collecting) (l : Lane) (p : PointNo) (ps : List (Nat × Nat))
    (named : ∀ x ∈ ps, x.1 < 64) :
    (c.putAll l ps).slot l p = ((lastPair ps p).map Prod.snd).or (c.slot l p) := by
  induction ps generalizing c with
  | nil => rfl
  | cons x ps ih =>
    obtain ⟨hx, hps⟩ := List.forall_mem_cons.mp named
    have names : p = Fin.ofNat 64 x.1 ↔ x.1 = p.val := by simp [Fin.ext_iff, Nat.mod_eq_of_lt hx, eq_comm]
    rw [Collecting.putAll_cons, ih _ hps, Collecting.put_slot, lastPair_cons]
    simp only [true_and, names]
    by_cases h : x.1 = p.val
    · cases lastPair ps p <;> simp [h]
    · simp [h]

/-! ## The checks of R22 -/

section checks
variable {s : State} {l : Lane}

/-- Checks 1 to 4: the round is collecting in RUN, the lane is seated, its round is the current one, and it has not sealed. -/
theorem State.roundCheck_eq_ok {c : Collecting} (hm : s.mode = .run) (hc : s.collecting = some c)
    (hr : (s.role l).seated = true) (hs : c.sealed.get l = false) : s.roundCheck l s.round = .ok c := by
  simp [State.roundCheck, hm, hc, hr, hs]

variable (s) (ps : List (Nat × Nat))

theorem State.pairsNamed_eq_none_iff : s.pairsNamed ps = none ↔ ∀ x ∈ ps, x.1 < 64 := by
  induction ps with
  | nil => simp [State.pairsNamed]
  | cons x ps ih =>
    rw [List.forall_mem_cons, State.pairsNamed]
    by_cases h : 64 ≤ x.1
    · simp [h]
    · simp [h, ih, Nat.lt_of_not_le h]

theorem State.pairsDefined_eq_none_iff :
    s.pairsDefined ps = none ↔ ∀ x ∈ ps, (s.point (Fin.ofNat 64 x.1)).defined = true := by
  induction ps with
  | nil => simp [State.pairsDefined]
  | cons x ps ih =>
    rw [List.forall_mem_cons, State.pairsDefined]
    by_cases h : (s.point (Fin.ofNat 64 x.1)).defined = true
    · rw [if_pos h, ih]
      exact (and_iff_right h).symm
    · rw [if_neg h]
      exact iff_of_false (Option.some_ne_none _) fun all => h all.1

theorem State.pairsInRange_eq_none_iff :
    s.pairsInRange ps = none ↔ ∀ x ∈ ps, ∀ d ∈ (s.point (Fin.ofNat 64 x.1)).defn, d.min ≤ x.2 ∧ x.2 ≤ d.max := by
  induction ps with
  | nil => simp [State.pairsInRange]
  | cons x ps ih =>
    rw [List.forall_mem_cons, State.pairsInRange]
    cases hd : (s.point (Fin.ofNat 64 x.1)).defn with
    | none => simp [ih]
    | some d =>
      by_cases h : d.min ≤ x.2 ∧ x.2 ≤ d.max
      · simp [h, ih]
      · simp [h]

/-- Checks 5 to 7 as they stand: no pair is refused where all three pass. -/
theorem State.pairsRefusal_eq_none_iff :
    s.pairsRefusal ps = none ↔ s.pairsNamed ps = none ∧ s.pairsDefined ps = none ∧ s.pairsInRange ps = none := by
  unfold State.pairsRefusal
  cases s.pairsNamed ps <;> cases s.pairsDefined ps <;> simp

/-- A pair that may be staged: its number is that of a defined point and its value lies in the point's range (R22). -/
def State.Stageable (s : State) (x : Nat × Nat) : Prop :=
  ∃ p : PointNo, ∃ d, x.1 = p.val ∧ (s.point p).defn = some d ∧ d.min ≤ x.2 ∧ x.2 ≤ d.max

theorem State.Stageable.named {x : Nat × Nat} (h : s.Stageable x) : x.1 < 64 := by
  obtain ⟨p, _, hp, _⟩ := h
  exact hp ▸ p.isLt

/-- The definition that the checks find for a pair that may be staged. -/
theorem State.Stageable.defn {x : Nat × Nat} (h : s.Stageable x) :
    ∃ d, (s.point (Fin.ofNat 64 x.1)).defn = some d ∧ d.min ≤ x.2 ∧ x.2 ≤ d.max := by
  obtain ⟨p, d, hp, hd, range⟩ := h
  have same : Fin.ofNat 64 x.1 = p := by rw [hp]; exact Fin.ofNat_val_eq_self p
  exact ⟨d, same ▸ hd, range⟩

/-- Pairs that may be staged pass the checks 5 to 7. -/
theorem State.pairsRefusal_eq_none (h : ∀ x ∈ ps, s.Stageable x) : s.pairsRefusal ps = none := by
  rw [State.pairsRefusal_eq_none_iff, State.pairsNamed_eq_none_iff, State.pairsDefined_eq_none_iff,
    State.pairsInRange_eq_none_iff]
  refine ⟨fun x hx => (h x hx).named, fun x hx => ?_, fun x hx d hd => ?_⟩
  · obtain ⟨d, hd, -⟩ := (h x hx).defn
    rw [PointRec.defined, hd]; rfl
  · obtain ⟨e, he, range⟩ := (h x hx).defn
    cases he.symm.trans hd
    exact range

end checks

/-! ## The request -/

/-- A STAGE of good form is one round number and 1 to 12 pairs (R21). -/
theorem stageForm_eq_ok {tr : Text} {tps : List Text} {n : Nat} {ps : List (Nat × Nat)} (hn : readNumber tr = some n)
    (hps : readPairs tps = some ps) (some_pair : 1 ≤ ps.length) (not_many : ps.length ≤ 12) :
    stageForm (tr :: tps) = .ok (n, ps) := by
  simp [stageForm, hn, hps, some_pair, not_many, Config.maxPairs]

/-- A STAGE that passes its form check and all checks of R22 stores its pairs (R23). -/
theorem handleStage_accepted {s : State} {l : Lane} {fields : List Text} {c : Collecting} {ps : List (Nat × Nat)}
    (form : stageForm fields = .ok (s.round, ps)) (round : s.roundCheck l s.round = .ok c)
    (pairs : s.pairsRefusal ps = none) :
    handleStage l fields s =
      ({ s with collecting := some (c.putAll l ps) }, [asc "OK", asc "STAGED", dec s.round, dec ps.length]) := by
  simp only [handleStage, form, round, pairs]

theorem Role.ne_excluded_of_seated {r : Role} (h : r.seated = true) : r ≠ .excluded := by
  rintro rfl
  cases h

/-- A STAGE is the arrival of a line with its verb. -/
theorem exec_stage (dt : Nat) (l : Lane) (q : Byte) (fields : List Text) (s : State) :
    exec (.stage dt l q fields) s = requestArrives dt l q (verbText .stage) fields s := rfl

/-- Settles O16: the pairs pass every check in the state that takes the line, and `putAll` is the round they leave. -/
theorem stageStores : Obligations.StageStores := by
  intro s dt l q c tr tps ps hs hmode hc hseated hsealed hround hps some_pair not_many pairs
  obtain ⟨listens, expected⟩ := hs
  have stageable : ∀ x ∈ ps, (s.taking dt l q).Stageable x := pairs
  have named : ∀ x ∈ ps, x.1 < 64 := fun x hx => (stageable x hx).named
  refine ⟨c.putAll l ps, by simp, by simp, fun m p => ?slot, ?next⟩
  case slot =>
    by_cases h : m = l
    · subst h
      rw [if_pos rfl]; exact c.putAll_slot_self m p ps named
    · rw [if_neg h]; exact c.putAll_slot_other l m p ps h
  case next =>
    have form := stageForm_eq_ok hround hps some_pair not_many
    have round : (s.taking dt l q).roundCheck l s.round = .ok c :=
      State.roundCheck_eq_ok hmode hc (by simpa using hseated) hsealed
    have handled := handleStage_accepted (s := s.taking dt l q) form round (State.pairsRefusal_eq_none _ ps stageable)
    rw [exec_stage]
    exact requestArrives_handled listens (.inr expected) (.inl (Role.ne_excluded_of_seated hseated)) handled

end Sys2Proof.Machine
end

section
/-! HANDOVER (R61, R62): which texts name a lane, which branch each check of R61 takes, and what passing the control leaves of the
lane records. -/

namespace Sys2Proof.Machine

/-! ## Lane letters -/

theorem Lane.mem_all (l : Lane) : l ∈ Lane.all := by cases l <;> decide

theorem readLane_laneText (l : Lane) : readLane (laneText l) = some l := by cases l <;> decide +kernel

/-- A text that is no lane letter in capitals names no lane (R180). -/
theorem readLane_eq_none_iff {x : Text} : readLane x = none ↔ ∀ m, x ≠ laneText m := by
  simp [readLane, Lane.mem_all, eq_comm (a := x)]

/-! ## The form and the checks of R61 -/

section handover
variable {l t : Lane} {fields : List Text} {s : State}

theorem handoverForm_laneText (t : Lane) : handoverForm [laneText t] = .ok t :=
  oneField_read _ _ _ (readLane_laneText t)

theorem handleHandover_form {name : Text} (form : handoverForm fields = .error name) :
    handleHandover l fields s = (s, no "FIELD" [name]) := by
  rw [handleHandover, form]

theorem handleHandover_mode (form : handoverForm fields = .ok t) (mode : s.mode ≠ .run) :
    handleHandover l fields s = (s, no "MODE" []) := by
  simp only [handleHandover, form, if_pos mode]

theorem handleHandover_role (form : handoverForm fields = .ok t) (mode : s.mode = .run) (role : s.role l ≠ .inControl) :
    handleHandover l fields s = (s, no "ROLE" [roleText (s.role l)]) := by
  simp only [handleHandover, form, if_neg (not_not.mpr mode), if_pos role]

theorem handleHandover_target (form : handoverForm fields = .ok t) (mode : s.mode = .run) (role : s.role l = .inControl)
    (target : s.role t ≠ .standby) :
    handleHandover l fields s = (s, no "TARGET" [roleText (s.role t)]) := by
  simp only [handleHandover, form, if_neg (not_not.mpr mode), if_neg (not_not.mpr role), if_pos target]

theorem handleHandover_accepted (form : handoverForm fields = .ok t) (mode : s.mode = .run) (role : s.role l = .inControl)
    (target : s.role t = .standby) :
    handleHandover l fields s = (s.passControl l t, [asc "OK", asc "CONTROL", laneText t]) := by
  simp only [handleHandover, form, if_neg (not_not.mpr mode), if_neg (not_not.mpr role), if_neg (not_not.mpr target)]

/-! ## The passing of the control -/

/-- Between two lanes the control passes by an exchange of roles and a CONTROL record (R62). -/
theorem State.passControl_eq (other : t ≠ l) :
    s.passControl l t =
      { s with
        lanes := (s.lanes.set l { s.lane l with role := .standby }).set t { s.lane t with role := .inControl } }.append
        { code := .control, lane := some t, round := some s.round, cause := some .handover } := by
  have kept : (s.setLane l { s.lane l with role := .standby }).lane t = s.lane t := by
    rw [State.setLane_lane, if_neg other]
  simp only [State.passControl, kept]
  rfl

/-- A line of one lane leaves the records of the others. -/
theorem State.taking_lane_ne (s : State) (dt : Nat) (q : Byte) (other : t ≠ l) : (s.taking dt l q).lane t = s.lane t :=
  PerLane.get_set_ne _ _ _ _ other

end handover

/-! ## The request -/

/-- What HANDOVER does is what its handler does in the state that takes the line. -/
theorem exec_handover_handled {s t : State} {dt : Nat} {l : Lane} {q : Byte} {fields body : List Text} (hs : s.Expects l q)
    (hx : s.role l ≠ .excluded) (handled : handleHandover l fields (s.taking dt l q) = (t, body)) :
    exec (.handover dt l q fields) s = .next (t.answered l q (requestText q (verbText .handover) fields) body) :=
  requestArrives_handled hs.1 (.inr hs.2) (.inl hx) handled

/-- Settles O27: each check of R61 is made on the mode and roles of `s`, which the taking of the line keeps, and the target of an
accepted HANDOVER is another lane than its sender, because their roles differ. -/
theorem handoverPasses : Obligations.HandoverPasses := by
  refine ⟨fun s dt l t q hs mode role target => ?accepted, fun s dt l q hs hx => ?refused⟩
  case accepted =>
    have other : t ≠ l := by rintro rfl; simp [role] at target
    have hx : s.role l ≠ .excluded := by simp [role]
    have handled := handleHandover_accepted (s := s.taking dt l q) (handoverForm_laneText t) mode (by simpa using role)
      (by simpa using target)
    rw [State.passControl_eq other, State.taking_lane_ne s dt q other] at handled
    exact exec_handover_handled hs hx handled
  case refused =>
    have malformed {fields : List Text} {name : Text} (form : handoverForm fields = .error name) :=
      exec_handover_handled (dt := dt) hs hx (handleHandover_form form)
    have checked {t : Lane} {why : List Text} (handled : handleHandover l [laneText t] (s.taking dt l q) =
        (s.taking dt l q, asc "NO" :: why)) := exec_handover_handled hs hx handled
    have bad_letter {x : Text} (bad : ∀ m, x ≠ laneText m) : handoverForm [x] = .error (asc "LANE") :=
      oneField_bad _ _ _ (readLane_eq_none_iff.mpr bad)
    refine ⟨⟨malformed rfl, fun x bad => malformed (bad_letter bad), fun _ _ _ => malformed rfl⟩, fun t => ?checks⟩
    have form := handoverForm_laneText t
    refine ⟨fun mode => checked (handleHandover_mode form mode), fun mode role => ?role, fun mode role target => ?target⟩
    case role =>
      rw [← State.taking_role s dt l l q] at role ⊢
      exact checked (handleHandover_role form mode role)
    case target =>
      rw [← State.taking_role s dt l t q] at target ⊢
      exact checked (handleHandover_target form mode (by simpa using role) target)

end Sys2Proof.Machine
end

section
/-! RETURN (R78, R79): the two outcomes of the control assignment rule that a returning lane can meet, which branch each check of R78
takes, and the state that an accepted RETURN leaves before the control is assigned. -/

namespace Sys2Proof.Machine

/-! ## The control assignment rule (R63) -/

section control
variable {s : State} {l : Lane}

theorem State.control_eq_none_iff : s.control = none ↔ ∀ m, s.role m ≠ .inControl := by
  simp [State.control, Lane.mem_all]

theorem State.assignControl_of_inControl (holder : s.role l = .inControl) : s.assignControl = s := by
  have held : s.control ≠ none := fun h => State.control_eq_none_iff.mp h l holder
  obtain ⟨m, hm⟩ := Option.ne_none_iff_exists'.mp held
  simp only [State.assignControl, hm]

/-- A vacant control goes to the one lane in STANDBY. -/
theorem State.assignControl_of_sole_standby (vacant : ∀ m, s.role m ≠ .inControl)
    (sole : ∀ m, s.role m = .standby ↔ m = l) :
    s.assignControl = (s.setLane l { s.lane l with role := .inControl }).append
      { code := .control, lane := some l, round := some s.round, cause := some .assign } := by
  have first : Lane.all.find? (fun m => s.role m = .standby) = some l := by
    simp only [sole]
    cases l <;> rfl
  simp only [State.assignControl, State.control_eq_none_iff.mpr vacant, first]

end control

/-! ## The checks of R78 -/

section checks
variable {l : Lane} {fields : List Text} {s : State} {d : Digest}

theorem digestForm_read {td : Text} (read : readDigest td = some d) : digestForm [td] = .ok d :=
  oneField_read _ _ _ read

theorem handleReturn_form {name : Text} (form : digestForm fields = .error name) :
    handleReturn l fields s = (s, no "FIELD" [name]) := by
  rw [handleReturn, form]

theorem handleReturn_role (form : digestForm fields = .ok d) (role : s.role l ≠ .held) :
    handleReturn l fields s = (s, no "ROLE" [roleText (s.role l)]) := by
  simp only [handleReturn, form, if_pos role]

theorem handleReturn_power (form : digestForm fields = .ok d) (role : s.role l = .held) (power : (s.lane l).power ≠ .high) :
    handleReturn l fields s = (s, no "POWER" [powerText (s.lane l).power]) := by
  simp only [handleReturn, form, if_neg (not_not.mpr role), if_pos power]

theorem handleReturn_digest (form : digestForm fields = .ok d) (role : s.role l = .held) (power : (s.lane l).power = .high)
    (other : d ≠ s.digest) :
    handleReturn l fields s = (s, no "DIGEST" []) := by
  simp only [handleReturn, form, if_neg (not_not.mpr role), if_neg (not_not.mpr power), if_pos other]

theorem handleReturn_accepted (form : digestForm fields = .ok s.digest) (role : s.role l = .held)
    (power : (s.lane l).power = .high) :
    handleReturn l fields s =
      (s.returnToVote l, [asc "OK", asc "RETURNED", dec s.round, roleText ((s.returnToVote l).role l)]) := by
  simp only [handleReturn, form, if_neg (not_not.mpr role), if_neg (not_not.mpr power), ne_eq, not_true, if_false]

end checks

/-! ## The lane's return -/

/-- What a hold keeps for the lane's return: its role before it, its deadline, and the carried strikes and streak (R72). -/
structure Hold where
  before : Role
  deadline : Moment
  strikes : Nat
  streak : Nat

/-- The lane record carries the hold `h`. -/
structure LaneRec.Carries (r : LaneRec) (h : Hold) : Prop where
  before : r.roleBefore = some h.before
  deadline : r.holdDeadline = some h.deadline
  strikes : r.carriedStrikes = some h.strikes
  streak : r.carriedStreak = some h.streak

/-- The lane record of a lane that is back from the hold `h` in the role `role`, its quiet timer running to `quiet` (R79). -/
def LaneRec.back (r : LaneRec) (h : Hold) (quiet : Moment) (role : Role) : LaneRec :=
  { r.endHold with role, strikes := h.strikes, streak := h.streak, quiet := some quiet }

/-- The RETURNED record of a lane that is back from the hold `h` (R79). -/
def State.returnedRecord (s : State) (l : Lane) (h : Hold) : Event :=
  { code := .returned, lane := some l, round := some s.round, cause := some (.role h.before),
    values := [h.strikes, interval s.now h.deadline.ms] }

/-- An accepted RETURN up to its RETURNED record, the lane back in the role `role` (R79). -/
def State.backAs (s : State) (l : Lane) (h : Hold) (role : Role) : State :=
  (s.setLane l ((s.lane l).back h (s.expiry s.settings.quiet) role)).append (s.returnedRecord l h)

/-- A record in the log and a lane record do not meet. -/
theorem State.append_setLane (s : State) (e : Event) (l : Lane) (r : LaneRec) :
    (s.append e).setLane l r = (s.setLane l r).append e := rfl

theorem State.taking_lane_power (s : State) (dt : Nat) (l : Lane) (q : Byte) :
    ((s.taking dt l q).lane l).power = (s.lane l).power := by
  rw [State.taking_lane_self]; rfl

section back
variable {s : State} {l : Lane} {h : Hold}

theorem State.returnToVote_eq (carries : (s.lane l).Carries h) : s.returnToVote l = (s.backAs l h .standby).assignControl := by
  simp only [State.returnToVote, carries.before, carries.deadline, carries.strikes, carries.streak]
  rfl

theorem State.backAs_role (m : Lane) (role : Role) : (s.backAs l h role).role m = if m = l then role else s.role m :=
  State.setLane_role ..

/-- A lane that returns while another has the control is in STANDBY. -/
theorem State.returnToVote_of_inControl {m : Lane} (carries : (s.lane l).Carries h) (role : s.role l = .held)
    (holder : s.role m = .inControl) : s.returnToVote l = s.backAs l h .standby := by
  have other : m ≠ l := by rintro rfl; simp [role] at holder
  rw [State.returnToVote_eq carries]
  exact State.assignControl_of_inControl (l := m) (by rw [State.backAs_role, if_neg other, holder])

/-- A lane that returns where no lane votes takes the control. -/
theorem State.returnToVote_of_vacant (carries : (s.lane l).Carries h) (vacant : ∀ m, (s.role m).voting = false) :
    s.returnToVote l = (s.backAs l h .inControl).append
      { code := .control, lane := some l, round := some s.round, cause := some .assign } := by
  have unassigned (m : Lane) : (s.backAs l h .standby).role m ≠ .inControl := by
    rw [State.backAs_role]
    split
    · decide
    · intro control; simpa [control, Role.voting] using vacant m
  have sole (m : Lane) : (s.backAs l h .standby).role m = .standby ↔ m = l := by
    rw [State.backAs_role]
    split
    next same => exact iff_of_true rfl same
    next other => exact iff_of_false (fun standby => by simpa [standby, Role.voting] using vacant m) other
  rw [State.returnToVote_eq carries, State.assignControl_of_sole_standby unassigned sole]
  simp only [State.backAs, State.append_lane, State.setLane_lane_self]
  rw [State.append_setLane, State.setLane_setLane]
  rfl

/-- The taking of the line leaves no trace in the record of a lane that returns: its quiet timer starts anew. -/
theorem State.taking_backAs (s : State) (dt : Nat) (l : Lane) (q : Byte) (h : Hold) (role : Role) :
    (s.taking dt l q).backAs l h role =
      { s.taking dt l q with
        lanes := s.lanes.set l ((s.lane l).back h ((s.advance dt).expiry s.settings.quiet) role) }.append
        ((s.advance dt).returnedRecord l h) := by
  rw [State.backAs, State.taking_lane_self]
  simp only [State.setLane, State.taking, State.heard, PerLane.set_set]
  rfl

end back

/-! ## The request -/

/-- What RETURN does is what its handler does in the state that takes the line, whatever the line's number. -/
theorem exec_returnLane_handled {s t : State} {dt : Nat} {l : Lane} {q : Byte} {fields body : List Text} (hs : s.Listens l)
    (hx : s.role l ≠ .excluded) (handled : handleReturn l fields (s.taking dt l q) = (t, body)) :
    exec (.returnLane dt l q fields) s = .next (t.answered l q (requestText q (verbText .returnLane) fields) body) :=
  requestArrives_handled hs (.inl rfl) (.inl hx) handled

/-- Settles O28: an accepted RETURN is `backAs` with the control rule after it, and each check of R78 is made on what the taking of
the line keeps: the role and the power state of the lane, and the digest. -/
theorem returnRestores : Obligations.ReturnRestores := by
  refine ⟨fun s dt l q td r d n k hs role power read before deadline strikes streak => ?accepted, fun s dt l q hs hx => ?refused⟩
  case accepted =>
    have hx : s.role l ≠ .excluded := by simp [role]
    have role' : (s.taking dt l q).role l = .held := by simpa using role
    have power' : ((s.taking dt l q).lane l).power = .high := by rw [State.taking_lane_power, power]
    have carries : ((s.taking dt l q).lane l).Carries ⟨r, d, n, k⟩ := by
      rw [State.taking_lane_self]; exact ⟨before, deadline, strikes, streak⟩
    have handled := handleReturn_accepted (s := s.taking dt l q) (digestForm_read read) role' power'
    refine ⟨fun ⟨m, holder⟩ => ?standby, fun vacant => ?control⟩
    case standby =>
      rw [State.returnToVote_of_inControl (m := m) carries role' (by simpa using holder), State.backAs_role, if_pos rfl,
        State.taking_backAs] at handled
      exact exec_returnLane_handled hs hx handled
    case control =>
      rw [State.returnToVote_of_vacant carries (by simpa using vacant), State.append_role, State.backAs_role, if_pos rfl,
        State.taking_backAs] at handled
      exact exec_returnLane_handled hs hx handled
  case refused =>
    have malformed {fields : List Text} {name : Text} (form : digestForm fields = .error name) :=
      exec_returnLane_handled (dt := dt) (q := q) hs hx (handleReturn_form form)
    have checked {td : Text} {why : List Text} (handled : handleReturn l [td] (s.taking dt l q) =
        (s.taking dt l q, asc "NO" :: why)) := exec_returnLane_handled hs hx handled
    refine ⟨⟨malformed rfl, fun td bad => malformed (oneField_bad _ _ _ bad), fun _ _ _ => malformed rfl⟩,
      fun td d read => ?checks⟩
    have form := digestForm_read read
    rw [← State.taking_role s dt l l q, ← State.taking_lane_power s dt l q]
    exact ⟨fun role => checked (handleReturn_role form role),
      fun role power => checked (handleReturn_power form role power),
      fun role power other => checked (handleReturn_digest form role power other)⟩

end Sys2Proof.Machine
end

section
/-! OPEN (R126): which branch each check takes, and what holding the session leaves of the state that takes the line. -/

namespace Sys2Proof.Machine

/-! ## The checks of R126 -/

section openChecks
variable {l : Lane} {fields : List Text} {s : State}

theorem handleOpen_count (some_field : fields ≠ []) : handleOpen l fields s = (s, no "FIELD" [asc "COUNT"]) := by
  rw [handleOpen, if_pos some_field]

theorem handleOpen_mode (mode : s.mode ≠ .configure) : handleOpen l [] s = (s, no "MODE" []) := by
  rw [handleOpen, if_neg (not_not.mpr rfl), if_pos mode]

theorem handleOpen_power (mode : s.mode = .configure) (power : (s.lane l).power ≠ .high) :
    handleOpen l [] s = (s, no "POWER" [powerText (s.lane l).power]) := by
  rw [handleOpen, if_neg (not_not.mpr rfl), if_neg (not_not.mpr mode), if_pos power]

theorem handleOpen_session {h : Lane} (mode : s.mode = .configure) (power : (s.lane l).power = .high)
    (holder : s.session = some h) (other : h ≠ l) : handleOpen l [] s = (s, no "SESSION" [laneText h]) := by
  have held : s.session ≠ none ∧ s.session ≠ some l := by simp [holder, other]
  rw [handleOpen, if_neg (not_not.mpr rfl), if_neg (not_not.mpr mode), if_neg (not_not.mpr power), if_pos held, holder]
  rfl

theorem handleOpen_accepted (mode : s.mode = .configure) (power : (s.lane l).power = .high)
    (free : s.session = none ∨ s.session = some l) :
    handleOpen l [] s = (s.holdSession l, [asc "OK", asc "SESSION", laneText l]) := by
  have unheld : ¬(s.session ≠ none ∧ s.session ≠ some l) := by tauto
  rw [handleOpen, if_neg (not_not.mpr rfl), if_neg (not_not.mpr mode), if_neg (not_not.mpr power), if_neg unheld]

/-- The idle timer of a new holder runs from the instant at which its line is taken. -/
theorem State.taking_holdSession (s : State) (dt : Nat) (l : Lane) (q : Byte) :
    (s.taking dt l q).holdSession l =
      { s.taking dt l q with session := some l, idle := some ((s.advance dt).expiry s.settings.session) } := rfl

end openChecks

/-! ## The request -/

/-- What OPEN does is what its handler does in the state that takes the line, whatever the line's number. -/
theorem exec_openSession_handled {s t : State} {dt : Nat} {l : Lane} {q : Byte} {fields body : List Text} (hs : s.Listens l)
    (hx : s.role l ≠ .excluded) (handled : handleOpen l fields (s.taking dt l q) = (t, body)) :
    exec (.openSession dt l q fields) s = .next (t.answered l q (requestText q (verbText .openSession) fields) body) :=
  requestArrives_handled hs (.inl rfl) (.inl hx) handled

/-- Settles O9: each check of R126 is made on what the taking of the line keeps, the mode, the session and the power state of the
lane, and an accepted OPEN leaves `holdSession`. -/
theorem openTakesSession : Obligations.OpenTakesSession := by
  intro s dt l q fields hs hx
  have settled {t : State} {body : List Text} (handled : handleOpen l fields (s.taking dt l q) = (t, body)) :=
    exec_openSession_handled hs hx handled
  rw [← State.taking_lane_power s dt l q]
  refine ⟨fun some_field => settled (handleOpen_count some_field), ?mode, ?power, fun h => ?session, ?accepted⟩
  case mode => rintro rfl mode; exact settled (handleOpen_mode mode)
  case power => rintro rfl mode power; exact settled (handleOpen_power mode power)
  case session => rintro rfl mode power holder other; exact settled (handleOpen_session mode power holder other)
  case accepted =>
    rintro rfl mode power free
    rw [← State.taking_holdSession]
    exact settled (handleOpen_accepted mode power free)

end Sys2Proof.Machine
end

section
/-! The Fault Log (R142 to R153): the serials of a well-formed log are all different, what an append does to them, and which records
stand at or after a cursor. -/

namespace Sys2Proof.Machine

/-! ## Consecutive serials -/

/-- Each serial of the list is followed by the next one of R142. -/
abbrev Consecutive (xs : List Serial) : Prop := xs.IsChain fun x y => serialAfter x = y

/-- Passing over 0 makes the successor of R142 the successor modulo 4294967295. -/
theorem toNat_serialAfter_mod (x : Serial) : (serialAfter x).toNat % 4294967295 = (x.toNat + 1) % 4294967295 := by
  unfold serialAfter
  split
  case isTrue last => rw [last]; rfl
  case isFalse other => bv_omega

theorem Consecutive.toNat_mod {xs : List Serial} (chain : Consecutive xs) (i : Nat) (hi : i < xs.length) :
    xs[i].toNat % 4294967295 = (xs[0].toNat + i) % 4294967295 := by
  induction i with
  | zero => rfl
  | succ i ih =>
    have before := ih (by omega)
    rw [← chain.getElem i hi, toNat_serialAfter_mod]
    omega

/-- So few consecutive serials do not wrap around to one another. -/
theorem Consecutive.nodup {xs : List Serial} (chain : Consecutive xs) (short : xs.length ≤ 4294967295) : xs.Nodup := by
  refine List.pairwise_iff_getElem.mpr fun i j hi hj lt same => ?_
  have at_i := chain.toNat_mod i hi
  have at_j := chain.toNat_mod j hj
  rw [same] at at_i
  omega

/-! ## The serials of a log -/

/-- The serials that R142 speaks of: those of the held records, oldest first, and the next one. -/
def FaultLog.serials (g : FaultLog) : List Serial := g.ring.map Record.serial ++ [g.next]

section log
variable {g : FaultLog} {old : Record} {rest before ahead : List Record} {l : Lane}

theorem FaultLog.Ok.serials_consecutive (ok : g.Ok) : Consecutive g.serials := ok.consecutive

@[simp] theorem FaultLog.length_serials (g : FaultLog) : g.serials.length = g.ring.length + 1 := by simp [serials]

@[simp] theorem FaultLog.getLast?_serials (g : FaultLog) : g.serials.getLast? = some g.next := by simp [serials]

theorem FaultLog.head?_serials (g : FaultLog) : g.serials.head? = some ((g.ring.head?.map Record.serial).getD g.next) := by
  cases ring : g.ring <;> simp [serials, ring]

theorem FaultLog.Ok.nodup_serials (ok : g.Ok) : g.serials.Nodup :=
  ok.serials_consecutive.nodup (by have := ok.size; simp [Config.ringSize] at *; omega)

/-! ## The records at or after a cursor (R147) -/

/-- A cursor that names the first of `ahead`, or the next serial where `ahead` is empty, has exactly `ahead` still to read: no other
serial of the log equals the one that it names. -/
theorem FaultLog.ahead_eq (nodup : g.serials.Nodup) (ring : g.ring = before ++ ahead)
    (cursor : g.cursors.get l = (ahead.head?.map Record.serial).getD g.next) : g.ahead l = ahead := by
  cases ahead with
  | nil => exact if_pos cursor
  | cons r rs =>
    replace cursor : g.cursors.get l = r.serial := cursor
    simp only [serials, ring, List.map_append, List.map_cons, List.nodup_append] at nodup
    obtain ⟨⟨-, -, apart⟩, -, fresh⟩ := nodup
    have held : r.serial ≠ g.next := fresh _ (by simp) _ (by simp)
    have passed : ∀ x ∈ before, decide (x.serial ≠ r.serial) = true := fun x hx =>
      decide_eq_true (apart _ (List.mem_map_of_mem hx) _ (by simp))
    rw [FaultLog.ahead, cursor, if_neg held, ring, List.dropWhile_append_of_pos passed, List.dropWhile_cons_of_neg (by simp)]

theorem FaultLog.unread_eq_length (nodup : g.serials.Nodup)
    (cursor : g.cursors.get l = (g.ring.head?.map Record.serial).getD g.next) : g.unread l = g.ring.length :=
  congrArg List.length (ahead_eq (before := []) nodup rfl cursor)

/-! ## The append and the drop (R143, R152) -/

theorem FaultLog.makeRoom_of_lt (room : g.ring.length < 64) : g.makeRoom = g := if_neg (Nat.not_le.mpr room)

theorem FaultLog.makeRoom_of_full (full : g.ring.length = 64) : g.makeRoom = g.dropOldest := if_pos (Nat.le_of_eq full.symm)

theorem FaultLog.dropOldest_cons (ring : g.ring = old :: rest) :
    g.dropOldest = { g with
      ring := rest
      cursors := PerLane.ofFn fun l => if g.cursors.get l = old.serial then serialAfter old.serial else g.cursors.get l
      gaps := PerLane.ofFn fun l =>
        if g.cursors.get l = old.serial then min (g.gaps.get l + 1) Config.maxGap else g.gaps.get l } := by
  rw [dropOldest, ring]

theorem FaultLog.serials_cons (ring : g.ring = old :: rest) : g.serials = old.serial :: g.dropOldest.serials := by
  rw [dropOldest_cons ring, serials, ring]
  rfl

theorem FaultLog.Ok.dropOldest_consecutive (ok : g.Ok) (ring : g.ring = old :: rest) : Consecutive g.dropOldest.serials := by
  have chain := ok.serials_consecutive
  rw [serials_cons ring] at chain
  exact chain.tail

/-- The serial after the oldest one is the oldest after the drop. -/
theorem FaultLog.Ok.head?_serials_dropOldest (ok : g.Ok) (ring : g.ring = old :: rest) :
    g.dropOldest.serials.head? = some (serialAfter old.serial) := by
  have chain := ok.serials_consecutive
  rw [serials_cons ring] at chain
  obtain ⟨first, -⟩ := List.isChain_cons.mp chain
  have head := head?_serials g.dropOldest
  rw [head, ← first _ head]

@[simp] theorem FaultLog.dropOldest_next (g : FaultLog) : g.dropOldest.next = g.next := by
  unfold dropOldest; split <;> rfl

@[simp] theorem FaultLog.makeRoom_next (g : FaultLog) : g.makeRoom.next = g.next := by
  unfold makeRoom; split <;> simp

theorem FaultLog.serials_append (g : FaultLog) (now : Time) (e : Event) :
    (g.append now e).serials = g.makeRoom.serials ++ [serialAfter g.next] := by
  simp [append, serials]

theorem FaultLog.consecutive_append (chain : Consecutive g.makeRoom.serials) (now : Time) (e : Event) :
    Consecutive (g.append now e).serials := by
  rw [serials_append]
  exact chain.append (.singleton _) (by simp)

/-- The gap count rises by 1 up to 255. -/
theorem FaultLog.Ok.gap_rises (ok : g.Ok) (l : Lane) :
    min (g.gaps.get l + 1) Config.maxGap = if g.gaps.get l = 255 then 255 else g.gaps.get l + 1 := by
  have bound : g.gaps.get l ≤ 255 := ok.gaps l
  simp only [Config.maxGap]
  split <;> omega

/-- A lane that has lost the oldest record of a full ring has the whole ring unread after the append. -/
theorem FaultLog.Ok.unread_append_of_lost (ok : g.Ok) (full : g.ring.length = 64) (ring : g.ring = old :: rest)
    (lost : g.cursors.get l = old.serial) (now : Time) (e : Event) : (g.append now e).unread l = 64 := by
  have room := makeRoom_of_full full
  have length : (g.append now e).ring.length = 64 := by
    rw [ring] at full
    simpa [append, room, dropOldest_cons ring] using full
  have chain : Consecutive (g.append now e).serials :=
    consecutive_append (by rw [room]; exact ok.dropOldest_consecutive ring) now e
  have nodup := chain.nodup (by simp [length])
  have head : (g.append now e).serials.head? = some (serialAfter old.serial) := by
    rw [serials_append, room, List.head?_append, ok.head?_serials_dropOldest ring, Option.some_or]
  have cursor : (g.append now e).cursors.get l = serialAfter old.serial := by
    simp [append, room, dropOldest_cons ring, lost]
  rw [head?_serials, Option.some.injEq, ← cursor] at head
  rw [unread_eq_length nodup head.symm, length]

end log

/-- Settles O41: below 64 records `makeRoom` does nothing; on a full ring it is `dropOldest`, whose cursors and gap counts are the
ones claimed. -/
theorem appendAndDrop : Obligations.AppendAndDrop := by
  refine ⟨fun s e room => ?joined, fun s e old rest ok full ring => ?dropped⟩
  case joined => rw [State.append, FaultLog.append, FaultLog.makeRoom_of_lt room]; rfl
  case dropped =>
    refine ⟨s.log.dropOldest.cursors, s.log.dropOldest.gaps, ?whole, fun l lost => ?lost, fun l kept => ?kept⟩
    case whole =>
      rw [State.append, FaultLog.append, FaultLog.makeRoom_of_full full, FaultLog.dropOldest_cons ring]; rfl
    case lost =>
      refine ⟨?cursor, ?gap, ok.unread_append_of_lost full ring lost _ _⟩
      case cursor => rw [FaultLog.dropOldest_cons ring, PerLane.get_ofFn, if_pos lost]; rfl
      case gap => rw [FaultLog.dropOldest_cons ring, PerLane.get_ofFn, if_pos lost, ok.gap_rises]
    case kept => simp [FaultLog.dropOldest_cons ring, kept]

/-! ## ACK (R150) -/

section ack
variable {l : Lane} {fields : List Text} {s : State} {n : Nat}

theorem handleAck_form {name : Text} (form : ackForm fields = .error name) :
    handleAck l fields s = (s, no "FIELD" [name]) := by
  rw [handleAck, form]

/-- Whichever record of this number the search finds, it has the serial of `r`. -/
theorem handleAck_held {r : Record} (form : ackForm fields = .ok n) (held : r ∈ s.log.ahead l) (serial : r.serial.toNat = n) :
    handleAck l fields s =
      ({ s with log := { s.log with cursors := s.log.cursors.set l (serialAfter r.serial) } },
        [asc "OK", asc "ACKED", dec n]) := by
  obtain ⟨x, found⟩ : ∃ x, (s.log.ahead l).find? (fun r => r.serial.toNat = n) = some x :=
    Option.isSome_iff_exists.mp (List.find?_isSome.mpr ⟨r, held, decide_eq_true serial⟩)
  have number : x.serial.toNat = n := by simpa using List.find?_some found
  have same : x.serial = r.serial := BitVec.eq_of_toNat_eq (number.trans serial.symm)
  simp only [handleAck, form, found, same]

theorem handleAck_range (form : ackForm fields = .ok n) (absent : ∀ r ∈ s.log.ahead l, r.serial.toNat ≠ n) :
    handleAck l fields s = (s, no "RANGE" [dec (s.log.cursors.get l).toNat]) := by
  have none_found : (s.log.ahead l).find? (fun r => r.serial.toNat = n) = none :=
    List.find?_eq_none.mpr (by simpa using absent)
  simp only [handleAck, form, none_found]

end ack

/-- What ACK does is what its handler does in the state that takes the line, for an EXCLUDED lane too (R165). -/
theorem exec_ack_handled {s t : State} {dt : Nat} {l : Lane} {q : Byte} {fields body : List Text} (hs : s.Expects l q)
    (handled : handleAck l fields (s.taking dt l q) = (t, body)) :
    exec (.ack dt l q fields) s = .next (t.answered l q (requestText q (verbText .ack) fields) body) :=
  requestArrives_handled hs.1 (.inr hs.2) (.inr rfl) handled

/-- Settles O43: the serials of a well-formed log are all different, so the records at or after the cursor are `ahead`. -/
theorem ackMoves : Obligations.AckMoves := by
  intro s dt l q before ahead hs ok ring cursor
  have ahead_eq : (s.taking dt l q).log.ahead l = ahead := FaultLog.ahead_eq ok.nodup_serials ring cursor
  refine ⟨fun n ts r read held serial => ?moves, fun n ts read absent => ?range, ?form⟩
  case moves =>
    exact exec_ack_handled hs (handleAck_held (oneField_read _ _ _ read) (ahead_eq ▸ held) serial)
  case range =>
    exact exec_ack_handled hs (handleAck_range (oneField_read _ _ _ read) (ahead_eq ▸ absent))
  case form =>
    have malformed {fields : List Text} {name : Text} (form : ackForm fields = .error name) :=
      exec_ack_handled (dt := dt) hs (handleAck_form form)
    exact ⟨malformed (oneField_nil ..), fun _ bad => malformed (oneField_bad _ _ _ bad), fun _ _ _ => malformed (oneField_many ..)⟩

end Sys2Proof.Machine
end

section
/-! What a command does, once for all the laws: outside a reset device time advances, a line that is taken restarts timers, one deed of
the part follows, and the port of the command's own link answers. A law that each of these keeps is kept by every step. -/

namespace Sys2Proof.Machine

-- One proof after another: elaborated side by side, the proofs of the whole text need more memory than the check gives.
set_option Elab.async false

/-! ## The deeds of the part -/

/-- What the part itself does at the event of a command, apart from the ports and the timers that a taken line restarts. -/
inductive Deed where
  | rests
  | handles (v : Verb) (l : Lane) (fields : List Text)
  | discards (l : Lane) (cause : LineFault)
  | powerFalls (l : Lane)
  | powerRises (l : Lane)
  | roundTimeout
  | quietExpires (l : Lane)
  | lossConfirmed (l : Lane)
  | holdExpires (l : Lane)
  | suspensionPasses (l : Lane)
  | sessionExpires
  | settleReached (b : BankNo) (st : BankState)
  | surveyFallsDue (b : BankNo)
  | frameSent (k : LinkNo)
  | replyTimeout (k : LinkNo) (midFrame : Bool)
  | frameReceived (k : LinkNo) (bytes : List RxByte)

/-- The state a deed leaves. -/
def Deed.run : Deed → State → State
  | .rests, s => s
  | .handles v l fields, s => (handleVerb v l fields s).1
  | .discards l cause, s => s.discardLine l cause
  | .powerFalls l, s => s.powerFalls l
  | .powerRises l, s => s.powerRises l
  | .roundTimeout, s => s.roundTimeout
  | .quietExpires l, s => s.quietExpires l
  | .lossConfirmed l, s => s.lossConfirmed l
  | .holdExpires l, s => s.holdExpires l
  | .suspensionPasses l, s => s.suspensionPasses l
  | .sessionExpires, s => s.sessionExpires
  | .settleReached b st, s => s.settleReached b st
  | .surveyFallsDue b, s => s.surveyFallsDue b
  | .frameSent k, s => s.frameSent k
  | .replyTimeout k midFrame, s => s.replyTimeout k midFrame
  | .frameReceived k bytes, s => s.frameReceived k bytes

/-- What holds before a deed: a request of an EXCLUDED lane is handled only where its verb is served (R165), and the settle deadlines
that come as commands are those of WARMING and SWITCHING. -/
def Deed.Allowed : Deed → State → Prop
  | .handles v l _, s => s.role l ≠ .excluded ∨ servedExcluded v = true
  | .settleReached _ st, _ => st = .warming ∨ st = .switching
  | _, _ => True

/-- `t` is `s` but for the port of the link `x` names. -/
def SamePart (x : Option Lane) (s t : State) : Prop :=
  ∃ ports, t = { s with ports } ∧ ∀ l, x ≠ some l → ports.get l = s.ports.get l

/-- `t` is `s` but for the port of the link `x` names and the timers that a line taken on it restarts. -/
def Readied (x : Option Lane) (s t : State) : Prop :=
  SamePart x s t ∨ ∃ l, x = some l ∧ SamePart x (s.noteTaken l) t

/-- From `s` the part has got to `t` by one deed at an event of the link `x`, device time having advanced before. -/
def Does (x : Option Lane) (s t : State) : Prop :=
  ∃ u d, Readied x s u ∧ Deed.Allowed d u ∧ SamePart x (d.run u) t

/-! ## Changes of a port alone -/

section ports
variable {x : Option Lane} {s t u : State} {l : Lane}

@[refl] theorem SamePart.refl (x : Option Lane) (s : State) : SamePart x s s := ⟨s.ports, rfl, fun _ _ => rfl⟩

theorem SamePart.trans (h : SamePart x s t) (k : SamePart x t u) : SamePart x s u := by
  obtain ⟨ps, rfl, hp⟩ := h
  obtain ⟨qs, rfl, hq⟩ := k
  exact ⟨qs, rfl, fun l hl => (hq l hl).trans (hp l hl)⟩

theorem SamePart.setPort (s : State) (l : Lane) (r : LanePort) : SamePart (some l) s (s.setPort l r) :=
  ⟨s.ports.set l r, rfl, fun _ hm => PerLane.get_set_ne _ _ _ _ fun same => hm (congrArg some same.symm)⟩

/-- The timers that a taken line restarts do not meet the ports. -/
theorem SamePart.noteTaken (h : SamePart x s t) (l : Lane) : SamePart x (s.noteTaken l) (t.noteTaken l) := by
  obtain ⟨ps, rfl, hp⟩ := h
  simp only [State.noteTaken_eq]
  exact ⟨ps, rfl, hp⟩

theorem Readied.of_samePart (h : SamePart x s t) : Readied x s t := .inl h

theorem Readied.after_samePart (h : SamePart x s t) (k : Readied x t u) : Readied x s u := by
  rcases k with k | ⟨l, hl, k⟩
  · exact .inl (h.trans k)
  · exact .inr ⟨l, hl, (h.noteTaken l).trans k⟩

theorem Does.after_samePart (h : SamePart x s t) (k : Does x t u) : Does x s u := by
  obtain ⟨v, d, hv, hd, hu⟩ := k
  exact ⟨v, d, hv.after_samePart h, hd, hu⟩

/-- A deed by itself. -/
theorem Does.deed (d : Deed) (hd : d.Allowed s) : Does x s (d.run s) := ⟨s, d, .inl (.refl x s), hd, .refl x _⟩

theorem Does.of_samePart (h : SamePart x s t) : Does x s t := ⟨s, .rests, .inl (.refl x s), trivial, h⟩

/-! ## Lines -/

/-- A dispatched line is answered by the port, or handled by its owner (R164, R165). -/
theorem dispatch_cases (l : Lane) (req : Request) (s : State) :
    (dispatch l req s).1 = s ∨ ∃ v, (s.role l ≠ .excluded ∨ servedExcluded v = true) ∧
      (dispatch l req s).1 = (handleVerb v l req.fields s).1 := by
  unfold dispatch
  cases hv : readVerb req.verb with
  | none => exact .inl rfl
  | some v =>
    by_cases hx : s.role l = .excluded ∧ servedExcluded v = false
    · exact .inl (by simp [hx])
    · exact .inr ⟨v, by by_cases h : s.role l = .excluded <;> simp_all, by simp [hx]⟩

/-- A taken line restarts timers, is handled or answered, and its port replies (R160). -/
theorem Does.take (s : State) (l : Lane) (req : Request) : Does (some l) s (s.take l req) := by
  have ready : Readied (some l) s (s.noteTaken l) := .inr ⟨l, rfl, .refl _ _⟩
  have replied (t : State) (body : List Text) : SamePart (some l) t (t.reply l req.seq body) := .setPort ..
  unfold State.take
  dsimp only
  split
  case h_2 => exact ⟨_, .rests, ready, trivial, replied _ _⟩
  case h_3 => exact ⟨_, .rests, ready, trivial, replied _ _⟩
  case h_1 =>
    simp only [State.execute]
    generalize hu : (s.noteTaken l).setPort l _ = u
    have ready' : Readied (some l) s u := .inr ⟨l, rfl, hu ▸ .setPort ..⟩
    have answered : SamePart (some l) (dispatch l req u).1
        (State.reply ((dispatch l req u).1.setPort l { (dispatch l req u).1.port l with
          stored := some { line := req.text, body := (dispatch l req u).2 } }) l req.seq (dispatch l req u).2) :=
      (SamePart.setPort ..).trans (replied _ _)
    rcases dispatch_cases l req u with same | ⟨v, served, handled⟩
    · refine ⟨u, .rests, ready', trivial, ?_⟩
      rw [same] at answered
      simpa only [Deed.run, same] using answered
    · refine ⟨u, .handles v l req.fields, ready', served, ?_⟩
      rw [handled] at answered
      simpa only [Deed.run, handled] using answered

theorem Does.acceptLine (s : State) (l : Lane) (req : Request) : Does (some l) s (s.acceptLine l req) := by
  unfold State.acceptLine
  split
  · exact .take s l req
  · exact .of_samePart (.setPort ..)

theorem Does.discardLine (s : State) (l : Lane) (w : LineFault) : Does (some l) s (s.discardLine l w) :=
  .deed (.discards l w) trivial

theorem Does.lineEnds (s : State) (l : Lane) (chars : List RxByte) : Does (some l) s (s.lineEnds l chars) := by
  unfold State.lineEnds
  dsimp only
  have begun := SamePart.setPort s l { s.port l with assembling := [], dropping := false }
  split
  · exact .of_samePart begun
  · split
    · exact .after_samePart begun (.discardLine ..)
    · split
      · exact .after_samePart begun (.discardLine ..)
      · exact .after_samePart begun (.acceptLine ..)

theorem Does.requestEnds (s : State) (l : Lane) (req : Request) : Does (some l) s (s.requestEnds l req) := by
  unfold State.requestEnds
  split
  · split
    · exact .discardLine ..
    · exact .acceptLine ..
  · exact .lineEnds ..

theorem Does.lineTooLong (s : State) (l : Lane) : Does (some l) s (s.lineTooLong l) := by
  unfold State.lineTooLong
  split
  · exact .of_samePart (.refl _ _)
  · exact .after_samePart (.setPort ..) (.discardLine ..)

theorem Does.replyEnds (s : State) (l : Lane) : Does (some l) s (s.replyEnds l) := by
  unfold State.replyEnds
  split
  · split
    · exact .of_samePart (.setPort ..)
    · exact .after_samePart (.setPort ..) (.take ..)
  · exact .of_samePart (.refl _ _)

end ports

/-! ## Commands -/

/-- What a command leaves outside a reset, once device time has advanced. -/
theorem happens_does {x : Option Lane} {dt : Nat} {s : State} {event : State → State}
    (h : ∀ u, Does x u (event u)) :
    ∃ t, happens dt s event = .next t ∧ (s.inReset = true ∧ t = s ∨ s.inReset = false ∧ Does x (s.advance dt) t) := by
  cases reset : s.inReset with
  | true => exact ⟨s, happens_reset _ _ _ reset, .inl ⟨rfl, rfl⟩⟩
  | false => exact ⟨_, happens_next _ _ _ reset, .inr ⟨rfl, h _⟩⟩

/-- Every command but those of a reset changes nothing in a reset, and outside one does one deed after device time has advanced
(R141, R186). -/
theorem exec_does (c : Instr) (s : State) {dt : Nat} (timed : elapsed c = some dt) :
    ∃ t, exec c s = .next t ∧
      (s.inReset = true ∧ t = s ∨ s.inReset = false ∧ Does (linkLane c) (s.advance dt) t) := by
  cases c
  case powerOnReset => cases timed
  case resetNLow => cases timed
  case resetEnd => cases timed
  all_goals obtain rfl := Option.some.inj timed
  case lineEnd _ l chars => exact happens_does (event := (·.lineEnds l chars)) fun u => .lineEnds u _ _
  case lineOverLength _ l => exact happens_does (event := (·.lineTooLong l)) fun u => .lineTooLong u _
  case replyEnd _ l => exact happens_does (event := (·.replyEnds l)) fun u => .replyEnds u _
  case pgFall _ l => exact happens_does (event := (Deed.powerFalls l).run) fun _ => .deed _ trivial
  case pgRise _ l => exact happens_does (event := (Deed.powerRises l).run) fun _ => .deed _ trivial
  case roundTimerExpiry => exact happens_does (event := Deed.roundTimeout.run) fun _ => .deed _ trivial
  case quietTimerExpiry _ l => exact happens_does (event := (Deed.quietExpires l).run) fun _ => .deed _ trivial
  case confirmTimerExpiry _ l => exact happens_does (event := (Deed.lossConfirmed l).run) fun _ => .deed _ trivial
  case holdExpiry _ l => exact happens_does (event := (Deed.holdExpires l).run) fun _ => .deed _ trivial
  case suspendedUntilReached _ l => exact happens_does (event := (Deed.suspensionPasses l).run) fun _ => .deed _ trivial
  case sessionIdleExpiry => exact happens_does (event := Deed.sessionExpires.run) fun _ => .deed _ trivial
  case warmingSettleDeadline _ b => exact happens_does (event := (Deed.settleReached b .warming).run) fun _ => .deed _ (.inl rfl)
  case switchingSettleDeadline _ b => exact happens_does (event := (Deed.settleReached b .switching).run) fun _ => .deed _ (.inr rfl)
  case surveyDue _ b => exact happens_does (event := (Deed.surveyFallsDue b).run) fun _ => .deed _ trivial
  case driverFrameSent _ k => exact happens_does (event := (Deed.frameSent k).run) fun _ => .deed _ trivial
  case replyTimerExpiry _ k m => exact happens_does (event := (Deed.replyTimeout k m).run) fun _ => .deed _ trivial
  case driverFrameReceived _ k bytes => exact happens_does (event := (Deed.frameReceived k bytes).run) fun _ => .deed _ trivial
  all_goals exact happens_does (event := (·.requestEnds _ _)) fun u => .requestEnds u _ _

/-- The same of a command that has answered. -/
theorem does_of_exec {c : Instr} {s t : State} (h : exec c s = .next t) (timed : elapsed c ≠ none) :
    ∃ dt, elapsed c = some dt ∧
      (s.inReset = true ∧ t = s ∨ s.inReset = false ∧ Does (linkLane c) (s.advance dt) t) := by
  obtain ⟨dt, hdt⟩ := Option.ne_none_iff_exists'.mp timed
  obtain ⟨u, hu, cases⟩ := exec_does c s hdt
  obtain rfl : u = t := by simpa [hu] using h
  exact ⟨dt, hdt, cases⟩

/-- The commands of a reset. -/
theorem reset_of_exec {c : Instr} {s t : State} (h : exec c s = .next t) (untimed : elapsed c = none) :
    t = s.heldInReset ∨ t = s ∨ ∃ pg, t = s.endReset pg := by
  cases c
  case powerOnReset => exact .inl (by simpa [exec, execPowerOnReset, eq_comm] using h)
  case resetNLow => exact .inl (by simpa [exec, execResetNLow, eq_comm] using h)
  case resetEnd pg =>
    have ht : (if s.inReset then s.endReset pg else s) = t := by simpa [exec, execResetEnd] using h
    split at ht
    · exact .inr (.inr ⟨pg, ht.symm⟩)
    · exact .inr (.inl ht.symm)
  all_goals cases untimed

/-! ## Laws that every step keeps -/

/-- What it takes of a law to be kept by every step. -/
structure Kept (P : State → Prop) : Prop where
  pending : ∀ s cs, P s → P { s with pending := cs }
  ports : ∀ s ps, P s → P { s with ports := ps }
  advance : ∀ s dt, P s → P (s.advance dt)
  taken : ∀ s l, P s → P (s.noteTaken l)
  deed : ∀ (d : Deed) s, d.Allowed s → P s → P (d.run s)
  held : P State.reset.heldInReset
  reset : ∀ power : PerLane PowerLine, (∀ l, power.get l ≠ .confirming) → P (State.afterReset power)

section kept
variable {P : State → Prop} (kept : Kept P)
include kept

theorem Kept.samePart {x : Option Lane} {s t : State} (h : SamePart x s t) (hs : P s) : P t := by
  obtain ⟨ps, rfl, -⟩ := h
  exact kept.ports s ps hs

theorem Kept.does {x : Option Lane} {s t : State} (h : Does x s t) (hs : P s) : P t := by
  obtain ⟨u, d, ready, allowed, after⟩ := h
  refine kept.samePart after (kept.deed d u allowed ?_)
  rcases ready with same | ⟨l, -, same⟩
  · exact kept.samePart same hs
  · exact kept.samePart same (kept.taken s l hs)

theorem Kept.exec {c : Instr} {s t : State} (h : exec c s = .next t) (hs : P s) : P t := by
  cases timed : elapsed c with
  | some dt =>
    obtain ⟨dt', -, ⟨-, rfl⟩ | ⟨-, does⟩⟩ := does_of_exec h (by simp [timed])
    · exact hs
    · exact kept.does does (kept.advance s dt' hs)
  | none =>
    obtain rfl | rfl | ⟨pg, rfl⟩ := reset_of_exec h timed
    · exact kept.pending _ s.pending kept.held
    · exact hs
    · exact kept.pending _ s.pending
        (kept.reset _ fun l => by rw [PerLane.get_ofFn]; cases pg.get l <;> decide)

/-- A law that is kept by the passing of time, by a taken line, by every deed and by a reset is kept by every step. -/
theorem Kept.step {s t : State} (h : step s = .next t) (hs : P s) : P t := by
  unfold Machine.step at h
  split at h
  · obtain rfl : s = t := by simpa using h
    exact hs
  next c rest _ => exact kept.exec h (kept.pending s rest hs)

end kept

end Sys2Proof.Machine
end

section
/-! What every deed leaves unchanged: device time, the queue, the ports; and outside the configuration requests the configuration too,
while the Fault Log grows by appends alone. -/

namespace Sys2Proof.Machine

-- One proof after another: elaborated side by side, the proofs of the whole text need more memory than the check gives.
set_option Elab.async false

/-! ## The frame of a deed -/

/-- Device time, the reset, the Lane Ports and the waiting commands are as in `s`. -/
structure Grounded (s t : State) : Prop where
  clock : t.clock = s.clock
  inReset : t.inReset = s.inReset
  ports : t.ports = s.ports
  pending : t.pending = s.pending

/-- The log `h` is `g` with further records appended. -/
def FaultLog.Grows (g h : FaultLog) : Prop := Relation.ReflTransGen (fun g h => ∃ now e, h = FaultLog.append g now e) g h

/-- The configuration is as in `s` too, and the log has grown by appends alone. -/
structure Moves (s t : State) : Prop extends Grounded s t where
  settings : t.settings = s.settings
  digest : t.digest = s.digest
  points : ∀ p, (t.point p).defn = (s.point p).defn
  banks : ∀ b, (t.bank b).defn = (s.bank b).defn
  log : s.log.Grows t.log

theorem Grounded.refl (s : State) : Grounded s s := ⟨rfl, rfl, rfl, rfl⟩

theorem Grounded.trans {s t u : State} (h : Grounded s t) (k : Grounded t u) : Grounded s u :=
  ⟨k.clock.trans h.clock, k.inReset.trans h.inReset, k.ports.trans h.ports, k.pending.trans h.pending⟩

theorem Moves.refl (s : State) : Moves s s := ⟨.refl s, rfl, rfl, fun _ => rfl, fun _ => rfl, .refl⟩

theorem Moves.trans {s t u : State} (h : Moves s t) (k : Moves t u) : Moves s u :=
  ⟨h.toGrounded.trans k.toGrounded, k.settings.trans h.settings, k.digest.trans h.digest,
    fun p => (k.points p).trans (h.points p), fun b => (k.banks b).trans (h.banks b), h.log.trans k.log⟩

/-! ## Single updates -/

section updates
variable (s : State)

theorem Moves.setLane (l : Lane) (r : LaneRec) : Moves s (s.setLane l r) :=
  ⟨⟨rfl, rfl, rfl, rfl⟩, rfl, rfl, fun _ => rfl, fun _ => rfl, .refl⟩

theorem Moves.setLink (k : LinkNo) (r : LinkCtl) : Moves s (s.setLink k r) :=
  ⟨⟨rfl, rfl, rfl, rfl⟩, rfl, rfl, fun _ => rfl, fun _ => rfl, .refl⟩

theorem Moves.append (e : Event) : Moves s (s.append e) :=
  ⟨⟨rfl, rfl, rfl, rfl⟩, rfl, rfl, fun _ => rfl, fun _ => rfl, .single ⟨_, _, rfl⟩⟩

theorem Moves.withdraw (l : Lane) : Moves s (s.withdraw l) :=
  ⟨⟨rfl, rfl, rfl, rfl⟩, rfl, rfl, fun _ => rfl, fun _ => rfl, .refl⟩

theorem Moves.releaseSession : Moves s s.releaseSession :=
  ⟨⟨rfl, rfl, rfl, rfl⟩, rfl, rfl, fun _ => rfl, fun _ => rfl, .refl⟩

theorem Moves.holdSession (l : Lane) : Moves s (s.holdSession l) :=
  ⟨⟨rfl, rfl, rfl, rfl⟩, rfl, rfl, fun _ => rfl, fun _ => rfl, .refl⟩

theorem Moves.setBank (b : BankNo) (r : BankRec) (same : r.defn = (s.bank b).defn) : Moves s (s.setBank b r) := by
  refine ⟨⟨rfl, rfl, rfl, rfl⟩, rfl, rfl, fun _ => rfl, fun c => ?_, .refl⟩
  rw [State.setBank_bank]
  split
  next h => rw [h, same]
  next => rfl

theorem Moves.updatePoints (f : PointNo → PointRec → Bool → PointRec × Bool) (same : ∀ p r m, (f p r m).1.defn = r.defn) :
    Moves s (s.updatePoints f) := by
  refine ⟨⟨by simp, by simp, by simp, by simp⟩, by simp, by simp, fun p => ?_, fun b => ?_, ?_⟩
  · rw [State.updatePoints_point, same]
  · rw [State.updatePoints_bank]
  · rw [State.updatePoints_log]; exact .refl

end updates

section deeds
variable {s t : State}

/-! The same in a chain: one more update at the end. -/

theorem Moves.then_setLane (h : Moves s t) (l : Lane) (r : LaneRec) : Moves s (t.setLane l r) := h.trans (.setLane ..)
theorem Moves.then_setLink (h : Moves s t) (k : LinkNo) (r : LinkCtl) : Moves s (t.setLink k r) := h.trans (.setLink ..)
theorem Moves.then_append (h : Moves s t) (e : Event) : Moves s (t.append e) := h.trans (.append ..)
theorem Moves.then_withdraw (h : Moves s t) (l : Lane) : Moves s (t.withdraw l) := h.trans (.withdraw ..)
theorem Moves.then_setBank (h : Moves s t) (b : BankNo) (r : BankRec) (same : r.defn = (t.bank b).defn) :
    Moves s (t.setBank b r) := h.trans (.setBank _ _ _ same)
theorem Moves.then_updatePoints (h : Moves s t) (f : PointNo → PointRec → Bool → PointRec × Bool)
    (same : ∀ p r m, (f p r m).1.defn = r.defn) : Moves s (t.updatePoints f) := h.trans (.updatePoints _ _ same)
theorem Moves.then_round (h : Moves s t) (n : Nat) (c : Option Collecting) (m : Option Summary) :
    Moves s { t with round := n, collecting := c, summary := m } :=
  h.trans ⟨⟨rfl, rfl, rfl, rfl⟩, rfl, rfl, fun _ => rfl, fun _ => rfl, .refl⟩

/-! ## The target write -/

theorem writeTarget_defn (v : Nat) (r : PointRec) (m : Bool) : (writeTarget v r m).1.defn = r.defn := by
  obtain ⟨h, -⟩ | ⟨_, _, h⟩ := writeTarget_cases v r m <;> rw [h]

theorem writeSafe_defn (r : PointRec) (m : Bool) : (writeSafe r m).1.defn = r.defn := by
  unfold writeSafe
  cases hd : r.defn with
  | none => exact hd
  | some d =>
    by_cases h : changesTarget d.safe r
    · simp only [h, if_true, writeTarget_defn, hd]
    · simp [h, hd]

theorem takeResult_defn (round : Nat) (v : PointVote) (r : PointRec) (m : Bool) :
    (takeResult round v r m).1.defn = r.defn := by
  cases hv : v.target with
  | none => rw [takeResult_none round r m hv]
  | some x => rw [takeResult_some round r m hv]; exact writeTarget_defn x r m

theorem reconcile_defn (r : PointRec) : (reconcile r).1.defn = r.defn := by
  unfold reconcile; split <;> rfl

/-! ## Exchanges -/

theorem Moves.sendStep (s : State) (k : LinkNo) (b : BankNo) (x : Exchange) : Moves s (s.sendStep k b x) := by
  unfold State.sendStep
  exact .then_setLink (.setBank _ _ _ (by rfl)) _ _

theorem Moves.startApply (s : State) (k : LinkNo) (b : BankNo) : Moves s (s.startApply k b) := by
  unfold State.startApply
  dsimp only
  refine .trans (.then_setBank (.updatePoints _ _ fun p r m => ?_) _ _ (by rfl)) (.sendStep ..)
  split_ifs <;> rfl

theorem Moves.startExchange (s : State) (k : LinkNo) (b : BankNo) : Moves s (s.startExchange k b) := by
  unfold State.startExchange
  dsimp only
  split
  · exact .trans (.setLink ..) (.startApply ..)
  · exact .trans (.setLink ..) (.sendStep ..)

theorem Moves.serveLink (s : State) (k : LinkNo) : Moves s (s.serveLink k) := by
  obtain h | ⟨b, -, -, -, h⟩ := s.serveLink_cases k <;> rw [h]
  · exact .refl s
  · exact .startExchange s k b

theorem Moves.serveLinks (s : State) : Moves s s.serveLinks := .trans (.serveLink ..) (.serveLink ..)

theorem Moves.failover (s : State) (b : BankNo) (k : LinkNo) : Moves s (s.failover b k) := by
  unfold State.failover
  exact .then_append (.setBank _ _ _ (by rfl)) _

theorem Moves.disqualify (s : State) (b : BankNo) (k : LinkNo) : Moves s (s.disqualify b k) := by
  unfold State.disqualify
  dsimp only
  refine .then_append (.then_updatePoints (.setBank _ _ _ (by rfl)) _ fun p r m => ?_) _
  split_ifs <;> rfl

theorem Moves.failLink (s : State) (b : BankNo) (k : LinkNo) (cause : Cause) : Moves s (s.failLink b k cause) := by
  unfold State.failLink
  dsimp only
  split
  · exact .trans (.then_append (.setBank _ _ _ (by rfl)) _) (.failover ..)
  · exact .trans (.then_append (.setBank _ _ _ (by rfl)) _) (.disqualify ..)

theorem Moves.strikeLink (s : State) (b : BankNo) (k : LinkNo) (cause : Cause) (tag : Byte) (point : Option PointNo)
    (slots : Nat) : Moves s (s.strikeLink b k cause tag point slots) := by
  unfold State.strikeLink
  dsimp only
  split
  · exact .trans (.append ..) (.failLink ..)
  · exact .then_setBank (.append ..) _ _ (by rfl)

theorem Moves.finish (s : State) (k : LinkNo) (b : BankNo) (x : Exchange) (e : Ending) : Moves s (s.finish k b x e) := by
  unfold State.finish
  dsimp only
  refine .trans ?_ (.serveLink ..)
  cases e with
  | clean => exact .then_setLink (.setBank _ _ _ (by rfl)) _ _
  | sense => exact .trans (.then_setLink (.setBank _ _ _ (by rfl)) _ _) (.strikeLink ..)
  | abandoned => exact .trans (.then_setLink (.setBank _ _ _ (by rfl)) _ _) (.strikeLink ..)

theorem Moves.reconcileLoaded (s : State) (b : BankNo) (loaded : List Entry)
    (applied : SlotNo → Nat → PointRec → Option Nat) : Moves s (s.reconcileLoaded b loaded applied) := by
  refine .updatePoints s _ fun p r m => ?_
  split
  · split
    · exact reconcile_defn _
    · rfl
  · rfl

theorem Moves.noteValidReply (s : State) (b : BankNo) (k : LinkNo) : Moves s (s.noteValidReply b k) := by
  unfold State.noteValidReply
  exact .setBank _ _ _ (by rfl)

theorem Moves.noteFailedAttempt (s : State) (b : BankNo) (k : LinkNo) : Moves s (s.noteFailedAttempt b k) := by
  unfold State.noteFailedAttempt
  exact .setBank _ _ _ (by rfl)

theorem Moves.abandon (s : State) (k : LinkNo) (b : BankNo) (x : Exchange) (f : Failure) : Moves s (s.abandon k b x f) := by
  unfold State.abandon
  cases x.phase with
  | load => exact .trans (.reconcileLoaded ..) (.finish ..)
  | transfer => exact .trans (.reconcileLoaded ..) (.finish ..)
  | survey => exact .finish ..

theorem Moves.attemptFails (s : State) (k : LinkNo) (b : BankNo) (x : Exchange) (f : Failure) :
    Moves s (s.attemptFails k b x f) := by
  unfold State.attemptFails
  dsimp only
  cases x.attempt with
  | first => exact .trans (.noteFailedAttempt ..) (.sendStep ..)
  | second => exact .trans (.noteFailedAttempt ..) (.abandon ..)

/-- Whether the reply was valid is noted either way. -/
theorem Moves.noted (s : State) (b : BankNo) (k : LinkNo) (valid : Bool) :
    Moves s (if valid then s.noteValidReply b k else s.noteFailedAttempt b k) := by
  cases valid
  · exact .noteFailedAttempt ..
  · exact .noteValidReply ..

theorem Moves.judge (s : State) (k : LinkNo) (b : BankNo) (x : Exchange) (bytes : List RxByte) :
    Moves s (s.judge k b x bytes) := by
  unfold State.judge
  split
  · exact .attemptFails ..
  next es _ =>
    cases x.phase with
    | load =>
      dsimp only [State.judgeEcho]
      split
      · exact .trans (.noteValidReply ..) (.sendStep ..)
      · exact .attemptFails ..
    | transfer =>
      dsimp only [State.judgeDone]
      exact .trans (.trans (.noted ..) (.reconcileLoaded ..)) (.finish ..)
    | survey =>
      dsimp only [State.judgeState]
      refine .trans (.then_updatePoints (.noted ..) _ fun p r m => ?_) (.finish ..)
      split <;> rfl

theorem Moves.frameSent (s : State) (k : LinkNo) : Moves s (s.frameSent k) := by
  unfold State.frameSent
  split
  · split
    · exact .setLink ..
    · exact .refl s
  · exact .refl s

theorem Moves.replyTimeout (s : State) (k : LinkNo) (mid : Bool) : Moves s (s.replyTimeout k mid) := by
  unfold State.replyTimeout
  split
  · exact .trans (.setLink ..) (.attemptFails ..)
  · exact .refl s

theorem Moves.frameReceived (s : State) (k : LinkNo) (bytes : List RxByte) : Moves s (s.frameReceived k bytes) := by
  unfold State.frameReceived
  split
  · exact .setLink ..
  · split
    · exact .refl s
    · exact .judge ..

theorem Moves.settled (s : State) (b : BankNo) (d : Time) : Moves s (s.settled b d) := by
  unfold State.settled
  dsimp only
  split
  · exact .setBank _ _ _ (by rfl)
  · exact .trans (.then_setLink (.setBank _ _ _ (by rfl)) _ _) (.serveLink ..)

theorem Moves.settleReached (s : State) (b : BankNo) (st : BankState) : Moves s (s.settleReached b st) := by
  obtain ⟨h, -⟩ | ⟨d, -, -, -, h⟩ := s.settleReached_cases b st <;> rw [h]
  · exact .refl s
  · exact .settled ..

theorem Moves.surveyFallsDue (s : State) (b : BankNo) : Moves s (s.surveyFallsDue b) := by
  obtain ⟨h, -⟩ | ⟨_, k, -, -, -, -, h⟩ := s.surveyFallsDue_cases b <;> rw [h]
  · exact .refl s
  · exact .serveLink ..

/-! ## Lanes and rounds -/

theorem Moves.assignControl (s : State) : Moves s s.assignControl := by
  unfold State.assignControl
  split
  · exact .then_append (.setLane ..) _
  · exact .refl s

theorem Moves.dismiss (s : State) (l : Lane) : Moves s (s.dismiss l) := by
  unfold State.dismiss
  split
  · exact .then_append (.setLane ..) _
  · exact .refl s

theorem Moves.enterSafe (s : State) (l : Lane) (why : Code) : Moves s (s.enterSafe l why) := by
  unfold State.enterSafe
  dsimp only
  have begun : Moves s { s with mode := .safe, collecting := none } :=
    ⟨⟨rfl, rfl, rfl, rfl⟩, rfl, rfl, fun _ => rfl, fun _ => rfl, .refl⟩
  exact .then_append (.then_updatePoints (((begun.trans (.dismiss ..)).trans (.dismiss ..)).trans (.dismiss ..)) _
    fun p r m => writeSafe_defn r m) _

theorem Moves.safeCheck (s : State) (l : Lane) (why : Code) : Moves s (s.safeCheck l why) := by
  unfold State.safeCheck
  split
  · exact .enterSafe ..
  · exact .refl s

theorem Moves.exclude (s : State) (l : Lane) (cause : Cause) : Moves s (s.exclude l cause) := by
  unfold State.exclude
  exact .then_append (.setLane ..) _

theorem Moves.suspend (s : State) (l : Lane) (cause : SuspendCause) : Moves s (s.suspend l cause) := by
  unfold State.suspend
  dsimp only
  split
  · exact .trans (.setLane ..) (.exclude ..)
  · exact .then_append (.then_setLane (.setLane ..) _ _) _

theorem Moves.departedInBatch (s : State) (l : Lane) : Moves s (s.departedInBatch l) :=
  ((Moves.withdraw s l).trans (.assignControl _)).trans (.safeCheck ..)

theorem Moves.strikeInBatch (s : State) (l : Lane) : Moves s (s.strikeInBatch l) := by
  unfold State.strikeInBatch
  dsimp only
  split
  · exact .trans (.trans (.setLane ..) (.suspend ..)) (.departedInBatch ..)
  · exact .setLane ..

theorem Moves.probationClean (s : State) (round : Nat) (l : Lane) : Moves s (s.probationClean round l) := by
  unfold State.probationClean
  dsimp only
  split
  · exact .trans (.then_append (.setLane ..) _) (.assignControl _)
  · exact .setLane ..

theorem Moves.probationFailed (s : State) (round : Nat) (l : Lane) (point : Option PointNo) :
    Moves s (s.probationFailed round l point) := by
  unfold State.probationFailed
  dsimp only
  split
  · exact .then_withdraw (.trans (.then_setLane (.then_append (.setLane ..) _) _ _) (.suspend ..)) _
  · exact .then_append (.setLane ..) _

theorem Moves.takeFinding (round : Nat) (s : State) (f : Finding) : Moves s (s.takeFinding round f) := by
  cases f <;> dsimp only [State.takeFinding] <;> split
  case late.isTrue => exact .trans (.append ..) (.strikeInBatch ..)
  case dissent.isTrue => exact .trans (.append ..) (.strikeInBatch ..)
  case clean.isTrue => exact .setLane ..
  case probClean.isTrue => exact .probationClean ..
  case probFailed.isTrue => exact .probationFailed ..
  all_goals exact .refl s

theorem Moves.takeFindings (round : Nat) (s : State) (fs : List Finding) : Moves s (fs.foldl (State.takeFinding round) s) := by
  induction fs generalizing s with
  | nil => exact .refl s
  | cons f fs ih => exact (Moves.takeFinding round s f).trans (ih _)

theorem Moves.appendOutcome (s : State) (code : Code) (ps : List PointNo) : Moves s (s.appendOutcome code ps) := by
  cases ps
  · exact .refl s
  · exact .append ..

theorem Moves.closeVotes (s : State) (c : Collecting) (cause : CloseCause) (vs : Votes) :
    Moves s (s.closeVotes c cause vs) := by
  unfold State.closeVotes
  have results : Moves s (s.updatePoints fun p r member => match vs[p] with
      | some v => takeResult s.round v r member
      | none => (r, member)) := .updatePoints s _ fun p r m => by
    cases vs[p]
    · rfl
    · exact takeResult_defn ..
  exact .then_round (.trans (.trans results (.appendOutcome ..)) (.appendOutcome ..)) _ _ _

theorem Moves.closeRound (s : State) (c : Collecting) (cause : CloseCause) : Moves s (s.closeRound c cause) :=
  (Moves.closeVotes ..).trans (.takeFindings ..)

theorem Moves.closeIfReady (s : State) (cause : CloseCause) : Moves s (s.closeIfReady cause) := by
  unfold State.closeIfReady
  split
  · exact .refl s
  · split
    · exact .closeRound ..
    · exact .refl s

theorem Moves.departed (s : State) (l : Lane) : Moves s (s.departed l) :=
  ((((Moves.withdraw s l).trans (.assignControl _)).trans (.closeIfReady ..)).trans (.safeCheck ..)).trans (.serveLinks _)

theorem Moves.vacated (s : State) (l : Lane) (was : Role) : Moves s (s.vacated l was) := by
  unfold State.vacated
  split
  · exact .departed ..
  · exact .withdraw ..

theorem Moves.strikeForLine (s : State) (l : Lane) : Moves s (s.strikeForLine l) := by
  unfold State.strikeForLine
  dsimp only
  split
  · exact .trans (.trans (.setLane ..) (.suspend ..)) (.vacated ..)
  · exact .setLane ..

theorem Moves.discardLine (s : State) (l : Lane) (cause : LineFault) : Moves s (s.discardLine l cause) := by
  unfold State.discardLine
  dsimp only
  split
  · exact .trans (.append ..) (.strikeForLine ..)
  · exact .append ..

theorem Moves.roundTimeout (s : State) : Moves s s.roundTimeout := by
  unfold State.roundTimeout
  split
  · split
    · split
      · exact .trans (.closeRound ..) (.serveLinks _)
      · exact .refl s
    · exact .refl s
  · exact .refl s

theorem Moves.quietExpires (s : State) (l : Lane) : Moves s (s.quietExpires l) := by
  unfold State.quietExpires
  split
  · dsimp only
    exact .trans (.trans (.append ..) (.suspend ..)) (.vacated ..)
  · exact .refl s

theorem Moves.suspensionPasses (s : State) (l : Lane) : Moves s (s.suspensionPasses l) := by
  unfold State.suspensionPasses
  split
  · split
    · exact .setLane ..
    · exact .refl s
  · exact .refl s

theorem Moves.sessionExpires (s : State) : Moves s s.sessionExpires := by
  unfold State.sessionExpires
  split
  · split
    · exact .then_append (.releaseSession _) _
    · exact .refl s
  · exact .refl s

theorem Moves.powerFalls (s : State) (l : Lane) : Moves s (s.powerFalls l) := by
  unfold State.powerFalls
  split
  · exact .setLane ..
  · exact .refl s

theorem Moves.powerRises (s : State) (l : Lane) : Moves s (s.powerRises l) := by
  unfold State.powerRises
  split
  · exact .refl s
  · exact .then_append (.setLane ..) _
  · exact .setLane ..

theorem Moves.recordLoss (s : State) (l : Lane) (cause : Cause) : Moves s (s.recordLoss l cause) := .append ..

theorem Moves.voterLoss (s : State) (l : Lane) : Moves s (s.voterLoss l) := by
  unfold State.voterLoss
  split
  · exact .trans (.trans (.recordLoss ..) (.exclude ..)) (.departed ..)
  · exact .trans (.then_setLane (.recordLoss ..) _ _) (.departed ..)

theorem Moves.heldLoss (s : State) (l : Lane) : Moves s (s.heldLoss l) := by
  unfold State.heldLoss
  dsimp only
  split
  · exact .trans (.trans (.trans (.recordLoss ..) (.exclude ..)) (.safeCheck ..)) (.serveLinks _)
  · exact .recordLoss ..

theorem Moves.probationLoss (s : State) (l : Lane) : Moves s (s.probationLoss l) := by
  unfold State.probationLoss
  exact .then_withdraw (.then_setLane (.recordLoss ..) _ _) _

theorem Moves.lossConfirmed (s : State) (l : Lane) : Moves s (s.lossConfirmed l) := by
  unfold State.lossConfirmed
  split
  · dsimp only
    split
    · exact .trans (.setLane ..) (.voterLoss ..)
    · exact .trans (.setLane ..) (.voterLoss ..)
    · exact .trans (.setLane ..) (.heldLoss ..)
    · exact .trans (.setLane ..) (.probationLoss ..)
    · split
      · exact .trans (.trans (.setLane ..) (.recordLoss ..)) (.releaseSession _)
      · exact .setLane ..
    · exact .setLane ..
    · exact .setLane ..
  · exact .refl s

theorem Moves.holdExpires (s : State) (l : Lane) : Moves s (s.holdExpires l) := by
  unfold State.holdExpires
  dsimp only
  split
  · exact .trans (.trans (.trans (.then_setLane (.append ..) _ _) (.suspend ..)) (.safeCheck ..)) (.serveLinks _)
  · exact .refl s

/-! ## Requests -/

theorem PointRec.started_defn (r : PointRec) : r.started.defn = r.defn := by
  unfold PointRec.started
  split
  · rfl
  next h => rw [h]

@[simp] theorem State.releaseSession_bank_mk (s : State) (b : BankNo) : s.releaseSession.bank b = s.bank b := rfl

theorem Moves.startUp (s : State) (l : Lane) : Moves s (s.startUp l) := by
  unfold State.startUp
  dsimp only
  refine .then_append ?_ _
  refine ⟨⟨rfl, rfl, rfl, rfl⟩, rfl, rfl, fun p => ?_, fun b => ?_, .refl⟩
  · simp only [State.point, Fin.getElem_fin, Vector.getElem_ofFn, PointRec.started_defn]; rfl
  · simp only [State.bank, Fin.getElem_fin, Vector.getElem_ofFn]
    split <;> rfl

theorem Moves.resumeRun (s : State) (l : Lane) : Moves s (s.resumeRun l) := by
  unfold State.resumeRun
  refine .then_append ?_ _
  exact ⟨⟨rfl, rfl, rfl, rfl⟩, rfl, rfl, fun _ => rfl, fun _ => rfl, .refl⟩

theorem Moves.restartPart (s : State) (l : Lane) : Moves s (s.restartPart l) := by
  unfold State.restartPart
  dsimp only
  refine .then_append (.trans ?_ (.holdSession ..)) _
  refine ⟨⟨rfl, rfl, rfl, rfl⟩, rfl, rfl, fun p => ?_, fun b => ?_, .refl⟩
  · simp only [State.point, Fin.getElem_fin, Vector.getElem_ofFn]; rfl
  · simp only [State.bank, Fin.getElem_fin, Vector.getElem_ofFn]; rfl

theorem Moves.joinLane (s : State) (l : Lane) : Moves s (s.joinLane l) := by
  unfold State.joinLane
  exact .then_append (.setLane ..) _

theorem Moves.leaveVote (s : State) (l : Lane) : Moves s (s.leaveVote l) := by
  unfold State.leaveVote
  exact .then_append (.setLane ..) _

theorem Moves.passControl (s : State) (l m : Lane) : Moves s (s.passControl l m) := by
  unfold State.passControl
  exact .then_append (.then_setLane (.setLane ..) _ _) _

theorem Moves.returnToVote (s : State) (l : Lane) : Moves s (s.returnToVote l) := by
  unfold State.returnToVote
  exact .trans (.then_append (.setLane ..) _) (.assignControl _)

theorem Moves.sealRound (s : State) (l : Lane) (c : Collecting) : Moves s (s.sealRound l c).1 := by
  have joined (c : Collecting) : Moves s { s with collecting := some c } :=
    ⟨⟨rfl, rfl, rfl, rfl⟩, rfl, rfl, fun _ => rfl, fun _ => rfl, .refl⟩
  unfold State.sealRound
  dsimp only
  split
  · exact ((joined _).trans (.closeRound ..)).trans (.serveLinks _)
  · exact joined _

end deeds

end Sys2Proof.Machine
end

section
/-! What each request leaves, by its owner: the configuration requests change the configuration and recompute the digest, FAULTS and ACK
move their lane's place in the log, and every other one is a move. The statements about all commands and the laws of the Fault Log and
the digest follow. -/

namespace Sys2Proof.Machine

-- One proof after another: elaborated side by side, the proofs of the whole text need more memory than the check gives.
set_option Elab.async false

section requests
variable (l : Lane) (fields : List Text) (s : State)

/-! ## Requests that leave the configuration -/

theorem Moves.handleOpen : Moves s (handleOpen l fields s).1 := by
  unfold Machine.handleOpen
  split_ifs
  case neg => exact .holdSession ..
  all_goals exact .refl s

theorem Moves.handleClose : Moves s (handleClose l fields s).1 := by
  unfold Machine.handleClose
  split_ifs
  case neg => exact .releaseSession _
  all_goals exact .refl s

theorem Moves.handleStart : Moves s (handleStart l fields s).1 := by
  unfold Machine.handleStart
  split
  · exact .refl s
  · split_ifs
    case neg =>
      split
      · exact .refl s
      · exact .startUp ..
    all_goals exact .refl s

theorem Moves.handleResume : Moves s (handleResume l fields s).1 := by
  unfold Machine.handleResume
  split
  · exact .refl s
  · split_ifs
    case neg =>
      split
      · exact .refl s
      · exact .resumeRun ..
    all_goals exact .refl s

theorem Moves.handleRestart : Moves s (handleRestart l fields s).1 := by
  unfold Machine.handleRestart
  split
  · exact .refl s
  · split
    · exact .refl s
    · split
      · exact .refl s
      · exact .restartPart ..
    · split
      · exact .refl s
      · exact .restartPart ..

theorem Moves.handleStage : Moves s (handleStage l fields s).1 := by
  unfold Machine.handleStage
  split
  · exact .refl s
  · split
    · exact .refl s
    · split
      · exact .refl s
      · exact ⟨⟨rfl, rfl, rfl, rfl⟩, rfl, rfl, fun _ => rfl, fun _ => rfl, .refl⟩

theorem Moves.handleSeal : Moves s (handleSeal l fields s).1 := by
  unfold Machine.handleSeal
  split
  · exact .refl s
  · split
    · exact .refl s
    · exact .sealRound ..

theorem Moves.handleJoin : Moves s (handleJoin l fields s).1 := by
  unfold Machine.handleJoin
  split
  · exact .refl s
  · split_ifs
    case neg =>
      split
      · exact .refl s
      · exact .joinLane ..
    all_goals exact .refl s

theorem Moves.handleLeave : Moves s (handleLeave l fields s).1 := by
  unfold Machine.handleLeave
  split_ifs
  case neg => exact .trans (.leaveVote ..) (.vacated ..)
  all_goals exact .refl s

theorem Moves.handleHandover : Moves s (handleHandover l fields s).1 := by
  unfold Machine.handleHandover
  split
  · exact .refl s
  · split_ifs
    case neg => exact .passControl ..
    all_goals exact .refl s

theorem Moves.handleReturn : Moves s (handleReturn l fields s).1 := by
  unfold Machine.handleReturn
  split
  · exact .refl s
  · split_ifs
    case neg => exact .returnToVote ..
    all_goals exact .refl s

/-- A plain report changes nothing. -/
theorem plainReport_state (body : List Text) : (plainReport fields s body).1 = s := by
  unfold plainReport; split <;> rfl

theorem handlePoints_state : (handlePoints fields s).1 = s := by
  unfold handlePoints
  split
  · rfl
  · split_ifs <;> rfl

theorem handleBanks_state : (handleBanks fields s).1 = s := by
  unfold handleBanks
  split
  · rfl
  · split_ifs <;> rfl

/-! ## The configuration requests -/

/-- `t` is `s`, or `s` with another configuration and its digest. -/
def Reconfigures (s t : State) : Prop :=
  t = s ∨ ∃ points banks settings, t = State.recomputeDigest { s with points, banks, settings }

/-- The checks of R125 pass, or the request changes nothing. -/
theorem guarded_cases (owner : State → State × List Text) :
    (guarded l s owner).1 = s ∨ s.mode = .configure ∧ s.session = some l ∧ guarded l s owner = owner s := by
  unfold guarded
  split_ifs with mode holder
  · exact .inl rfl
  · exact .inl rfl
  · exact .inr ⟨not_not.mp mode, not_not.mp holder, rfl⟩

theorem Reconfigures.handlePoint : Reconfigures s (handlePoint fields s).1 := by
  unfold Machine.handlePoint
  split
  · exact .inl rfl
  · split
    · exact .inl rfl
    · exact .inr ⟨_, _, _, rfl⟩

theorem Reconfigures.handleDrop : Reconfigures s (handleDrop fields s).1 := by
  unfold Machine.handleDrop
  split
  · exact .inl rfl
  · dsimp only
    split_ifs
    · exact .inr ⟨_, _, _, rfl⟩
    all_goals exact .inl rfl

theorem Reconfigures.handleBankDefine (b addr link : Nat) : Reconfigures s (handleBankDefine b addr link s).1 := by
  unfold Machine.handleBankDefine
  split
  · split
    · exact .inl rfl
    · split
      · exact .inl rfl
      · split
        · exact .inl rfl
        · exact .inr ⟨_, _, _, rfl⟩
  · exact .inl rfl

theorem Reconfigures.handleBankRemove (b : Nat) : Reconfigures s (handleBankRemove b s).1 := by
  unfold Machine.handleBankRemove
  split_ifs
  · exact .inr ⟨_, _, _, rfl⟩
  all_goals exact .inl rfl

theorem Reconfigures.handleBank : Reconfigures s (handleBank fields s).1 := by
  unfold Machine.handleBank
  split
  · exact .inl rfl
  · exact .handleBankDefine ..
  · exact .handleBankRemove ..

theorem Reconfigures.handleSet : Reconfigures s (handleSet fields s).1 := by
  unfold Machine.handleSet
  split
  · exact .inl rfl
  · split_ifs
    · exact .inl rfl
    · exact .inr ⟨_, _, _, rfl⟩

/-! ## FAULTS and ACK -/

/-- FAULTS sets the lane's gap count back, or is refused. -/
theorem handleFaults_cases : (handleFaults l fields s).1 = s ∨
    (handleFaults l fields s).1 = { s with log := { s.log with gaps := s.log.gaps.set l 0 } } := by
  unfold handleFaults
  split_ifs
  · exact .inl rfl
  · exact .inr rfl

/-- ACK moves the lane's cursor past a held record, or is refused. -/
theorem handleAck_cases : (handleAck l fields s).1 = s ∨ ∃ r ∈ s.log.ahead l,
    (handleAck l fields s).1 = { s with log := { s.log with cursors := s.log.cursors.set l (serialAfter r.serial) } } := by
  unfold handleAck
  split
  · exact .inl rfl
  · split
    next found => exact .inr ⟨_, List.mem_of_find?_eq_some found, rfl⟩
    · exact .inl rfl

/-- What a request can do: move the part, change the configuration in CONFIGURE, or move the lane's place in the log. -/
theorem handleVerb_cases (v : Verb) :
    Moves s (handleVerb v l fields s).1 ∨
    s.mode = .configure ∧ s.session = some l ∧ Reconfigures s (handleVerb v l fields s).1 ∨
    (∃ gaps : PerLane Nat, gaps = s.log.gaps.set l 0 ∧
      (handleVerb v l fields s).1 = { s with log := { s.log with gaps } }) ∨
    ∃ r ∈ s.log.ahead l, (handleVerb v l fields s).1 =
      { s with log := { s.log with cursors := s.log.cursors.set l (serialAfter r.serial) } } := by
  have configures {owner : State → State × List Text} (h : Reconfigures s (owner s).1) :
      Moves s (guarded l s owner).1 ∨
        s.mode = .configure ∧ s.session = some l ∧ Reconfigures s (guarded l s owner).1 := by
    obtain same | ⟨mode, holder, owned⟩ := guarded_cases l s owner
    · exact .inl (by rw [same]; exact .refl s)
    · exact .inr ⟨mode, holder, owned ▸ h⟩
  have unchanged {t : State} (same : t = s) : Moves s t := same ▸ .refl s
  cases v
  case point => exact (configures (.handlePoint fields s)).imp_right .inl
  case drop => exact (configures (.handleDrop fields s)).imp_right .inl
  case bank => exact (configures (.handleBank fields s)).imp_right .inl
  case setSetting => exact (configures (.handleSet fields s)).imp_right .inl
  case faults =>
    obtain same | moved := handleFaults_cases l fields s
    · exact .inl (unchanged same)
    · exact .inr (.inr (.inl ⟨_, rfl, moved⟩))
  case ack =>
    obtain same | moved := handleAck_cases l fields s
    · exact .inl (unchanged same)
    · exact .inr (.inr (.inr moved))
  case start =>
    obtain same | ⟨-, -, owned⟩ := guarded_cases l s (Machine.handleStart l fields)
    · exact .inl (unchanged same)
    · exact .inl (by rw [handleVerb, owned]; exact .handleStart l fields s)
  case openSession => exact .inl (.handleOpen l fields s)
  case closeSession => exact .inl (.handleClose l fields s)
  case resume => exact .inl (.handleResume l fields s)
  case restart => exact .inl (.handleRestart l fields s)
  case stage => exact .inl (.handleStage l fields s)
  case join => exact .inl (.handleJoin l fields s)
  case leave => exact .inl (.handleLeave l fields s)
  case handover => exact .inl (.handleHandover l fields s)
  case returnLane => exact .inl (.handleReturn l fields s)
  case status => exact .inl (unchanged (plainReport_state ..))
  case lanes => exact .inl (unchanged (plainReport_state ..))
  case round => exact .inl (unchanged (plainReport_state ..))
  case digest => exact .inl (unchanged (plainReport_state ..))
  case points => exact .inl (unchanged (handlePoints_state ..))
  case banks => exact .inl (unchanged (handleBanks_state ..))
  -- SEAL is the last case left: its name is a keyword.
  next => exact .inl (.handleSeal l fields s)

end requests

/-! ## Deeds -/

section deeds
variable {s t : State}

/-- A deed is a move, a configuration request in CONFIGURE, or a lane's FAULTS or ACK. -/
theorem Deed.run_cases (d : Deed) (s : State) :
    Moves s (d.run s) ∨ s.mode = .configure ∧ Reconfigures s (d.run s) ∨
    (∃ l, d.run s = { s with log := { s.log with gaps := s.log.gaps.set l 0 } }) ∨
    ∃ l, ∃ r ∈ s.log.ahead l, d.run s =
      { s with log := { s.log with cursors := s.log.cursors.set l (serialAfter r.serial) } } := by
  cases d
  case handles v l fields =>
    obtain moved | ⟨mode, -, config⟩ | ⟨gaps, rfl, gone⟩ | acked := handleVerb_cases l fields s v
    · exact .inl moved
    · exact .inr (.inl ⟨mode, config⟩)
    · exact .inr (.inr (.inl ⟨l, gone⟩))
    · exact .inr (.inr (.inr ⟨l, acked⟩))
  case rests => exact .inl (.refl s)
  case discards l w => exact .inl (.discardLine s l w)
  case powerFalls l => exact .inl (.powerFalls s l)
  case powerRises l => exact .inl (.powerRises s l)
  case roundTimeout => exact .inl (.roundTimeout s)
  case quietExpires l => exact .inl (.quietExpires s l)
  case lossConfirmed l => exact .inl (.lossConfirmed s l)
  case holdExpires l => exact .inl (.holdExpires s l)
  case suspensionPasses l => exact .inl (.suspensionPasses s l)
  case sessionExpires => exact .inl (.sessionExpires s)
  case settleReached b st => exact .inl (.settleReached s b st)
  case surveyFallsDue b => exact .inl (.surveyFallsDue s b)
  case frameSent k => exact .inl (.frameSent s k)
  case replyTimeout k m => exact .inl (.replyTimeout s k m)
  case frameReceived k bytes => exact .inl (.frameReceived s k bytes)

theorem Grounded.of_reconfigures (h : Reconfigures s t) : Grounded s t := by
  obtain rfl | ⟨_, _, _, rfl⟩ := h
  · exact .refl _
  · exact ⟨rfl, rfl, rfl, rfl⟩

/-- No deed moves device time, the reset, a port or the queue. -/
theorem Grounded.deed (d : Deed) (s : State) : Grounded s (d.run s) := by
  obtain moved | ⟨-, config⟩ | ⟨l, gone⟩ | ⟨l, r, -, acked⟩ := d.run_cases s
  · exact moved.toGrounded
  · exact .of_reconfigures config
  · exact gone ▸ ⟨rfl, rfl, rfl, rfl⟩
  · exact acked ▸ ⟨rfl, rfl, rfl, rfl⟩

/-- Outside CONFIGURE no deed changes the configuration. -/
theorem Deed.run_configuration (d : Deed) (s : State) (mode : s.mode ≠ .configure) :
    (d.run s).settings = s.settings ∧ (d.run s).digest = s.digest ∧
      (∀ p, ((d.run s).point p).defn = (s.point p).defn) ∧ ∀ b, ((d.run s).bank b).defn = (s.bank b).defn := by
  obtain moved | ⟨conf, -⟩ | ⟨l, gone⟩ | ⟨l, r, -, acked⟩ := d.run_cases s
  · exact ⟨moved.settings, moved.digest, moved.points, moved.banks⟩
  · exact absurd conf mode
  · exact gone ▸ ⟨rfl, rfl, fun _ => rfl, fun _ => rfl⟩
  · exact acked ▸ ⟨rfl, rfl, fun _ => rfl, fun _ => rfl⟩

/-- A taken line restarts timers and changes nothing else. -/
theorem Moves.noteTaken (s : State) (l : Lane) : Moves s (s.noteTaken l) := by
  rw [State.noteTaken_eq]
  exact ⟨⟨rfl, rfl, rfl, rfl⟩, rfl, rfl, fun _ => rfl, fun _ => rfl, .refl⟩

theorem noteTaken_mode (s : State) (l : Lane) : (s.noteTaken l).mode = s.mode := by rw [State.noteTaken_eq]

/-- What readying the part for a deed leaves: all but the ports, the quiet timer of a lane and the idle timer. -/
theorem Readied.cases {x : Option Lane} (h : Readied x s t) :
    ∃ u, (u = s ∨ ∃ l, u = s.noteTaken l) ∧ SamePart x u t ∧ Moves s u := by
  rcases h with same | ⟨l, -, same⟩
  · exact ⟨s, .inl rfl, same, .refl s⟩
  · exact ⟨_, .inr ⟨l, rfl⟩, same, .noteTaken s l⟩

theorem Readied.mode {x : Option Lane} (h : Readied x s t) : t.mode = s.mode := by
  obtain ⟨u, rfl | ⟨l, rfl⟩, ⟨ps, rfl, -⟩, -⟩ := h.cases
  · rfl
  · exact noteTaken_mode s l

end deeds

/-! ## The statements about all commands -/

/-- Settles O1: both equations are the definition of a step. -/
theorem stepRunsFront : Obligations.StepRunsFront :=
  ⟨fun _ _ _ => rfl, fun s idle => by rw [step, idle]⟩

/-- Settles O2: no deed moves device time, the reset or the queue. -/
theorem everyCommandAnswers : Obligations.EveryCommandAnswers := by
  intro c s
  cases timed : elapsed c with
  | some dt =>
    obtain ⟨t, ht, ⟨reset, rfl⟩ | ⟨reset, u, d, ready, -, ps, rfl, -⟩⟩ := exec_does c s timed
    · exact ⟨t, ht, rfl, fun _ _ => ⟨rfl, by rw [if_pos reset]⟩⟩
    · obtain ⟨v, -, ⟨qs, rfl, -⟩, before⟩ := ready.cases
      have deed := Grounded.deed d { v with ports := qs }
      refine ⟨_, ht, deed.pending.trans before.pending, fun e he => ⟨deed.inReset.trans before.inReset, ?_⟩⟩
      obtain rfl := Option.some.inj he
      rw [reset, if_neg Bool.false_ne_true]
      exact deed.clock.trans before.clock
  | none =>
    cases c
    case powerOnReset => exact ⟨_, rfl, rfl, fun _ h => nomatch h⟩
    case resetNLow => exact ⟨_, rfl, rfl, fun _ h => nomatch h⟩
    case resetEnd pg =>
      refine ⟨_, rfl, ?_, fun _ h => nomatch h⟩
      split <;> rfl
    all_goals cases timed

/-- Settles O3: no deed changes a port, and a line changes that of its own link. -/
theorem portsIndependent : Obligations.PortsIndependent := by
  intro c s t l h timed other
  obtain ⟨dt, -, ⟨-, rfl⟩ | ⟨-, u, d, ready, -, ps, rfl, after⟩⟩ := does_of_exec h timed
  · rfl
  · obtain ⟨v, -, ⟨qs, rfl, before⟩, moves⟩ := ready.cases
    calc ps.get l = (d.run { v with ports := qs }).ports.get l := after l other
      _ = qs.get l := congrArg (PerLane.get · l) (Grounded.deed d { v with ports := qs }).ports
      _ = v.ports.get l := before l other
      _ = s.ports.get l := congrArg (PerLane.get · l) moves.ports

/-- Settles O4: only the requests that CONFIGURE admits change the configuration. -/
theorem configurationFixed : Obligations.ConfigurationFixed := by
  intro c s t h timed mode
  obtain ⟨dt, -, ⟨-, rfl⟩ | ⟨-, u, d, ready, -, ps, rfl, -⟩⟩ := does_of_exec h timed
  · exact ⟨rfl, rfl, fun _ => rfl, fun _ => rfl⟩
  · have mode' : u.mode ≠ .configure := by rw [ready.mode]; exact mode
    obtain ⟨settings, digest, points, banks⟩ := d.run_configuration u mode'
    obtain ⟨v, -, ⟨qs, rfl, -⟩, before⟩ := ready.cases
    exact ⟨settings.trans before.settings, digest.trans before.digest, fun p => (points p).trans (before.points p),
      fun b => (banks b).trans (before.banks b)⟩

/-! ## The Fault Log -/

theorem serialAfter_ne_zero {x : Serial} (_h : x ≠ 0#32) : serialAfter x ≠ 0#32 := by
  unfold serialAfter
  split
  · decide
  · bv_omega

section log
variable {g : FaultLog}

/-- A drop of the oldest record keeps the log well formed: a cursor that named it names the next. -/
theorem FaultLog.Ok.dropOldest (ok : g.Ok) : g.dropOldest.Ok := by
  cases ring : g.ring with
  | nil => rw [FaultLog.dropOldest, ring]; exact ok
  | cons old rest =>
    have serials := serials_cons ring
    have dropped := dropOldest_cons ring
    have tail : ∀ x ∈ g.dropOldest.serials, x ∈ g.serials := fun x hx => serials ▸ List.mem_cons_of_mem _ hx
    refine ⟨?size, fun x hx => ok.serials x (tail x hx), ok.dropOldest_consecutive ring, fun l => ?cursor, fun l => ?gap⟩
    case size =>
      have := ok.size
      rw [ring] at this
      rw [dropped]
      exact Nat.le_of_succ_le this
    case cursor =>
      have cursor : g.dropOldest.cursors.get l =
          if g.cursors.get l = old.serial then serialAfter old.serial else g.cursors.get l := by
        rw [dropped, PerLane.get_ofFn]
      rw [cursor]
      split
      next => exact List.mem_of_mem_head? (ok.head?_serials_dropOldest ring)
      next other =>
        have held : g.cursors.get l ∈ g.serials := ok.cursors l
        rw [serials] at held
        exact (List.mem_cons.mp held).resolve_left other
    case gap =>
      rw [dropped, PerLane.get_ofFn]
      split
      · exact Nat.min_le_right ..
      · exact ok.gaps l

/-- A full ring has room after the drop, and any other has it already. -/
theorem FaultLog.Ok.makeRoom (ok : g.Ok) : g.makeRoom.Ok ∧ g.makeRoom.ring.length < Config.ringSize := by
  unfold FaultLog.makeRoom
  split
  next full =>
    refine ⟨ok.dropOldest, ?_⟩
    have size := ok.size
    cases ring : g.ring with
    | nil => rw [ring] at full; exact absurd full (by decide)
    | cons old rest =>
      rw [dropOldest_cons ring]
      rw [ring] at size
      exact size
  next room => exact ⟨ok, Nat.lt_of_not_le room⟩

theorem FaultLog.Ok.append (ok : g.Ok) (now : Time) (e : Event) : (g.append now e).Ok := by
  obtain ⟨ok', room⟩ := ok.makeRoom
  have serials := serials_append g now e
  have old : ∀ x ∈ g.makeRoom.serials, x ∈ (g.append now e).serials := fun x hx =>
    serials ▸ List.mem_append_left _ hx
  refine ⟨?size, fun x hx => ?serial, consecutive_append ok'.serials_consecutive now e, fun l => old _ (ok'.cursors l),
    fun l => ok'.gaps l⟩
  case size => simpa [FaultLog.append] using room
  case serial =>
    have hx' : x ∈ g.makeRoom.serials ++ [serialAfter g.next] := serials ▸ hx
    obtain held | fresh := List.mem_append.mp hx'
    · exact ok'.serials x held
    · rw [List.mem_singleton.mp fresh]
      exact serialAfter_ne_zero (ok.serials _ (List.mem_append_right _ (List.mem_singleton_self _)))

theorem FaultLog.Ok.grows {h : FaultLog} (ok : g.Ok) (grows : g.Grows h) : h.Ok := by
  induction grows with
  | refl => exact ok
  | tail _ step ih =>
    obtain ⟨now, e, rfl⟩ := step
    exact ih.append now e

theorem FaultLog.Ok.setGap (ok : g.Ok) (l : Lane) : FaultLog.Ok { g with gaps := g.gaps.set l 0 } := by
  refine ⟨ok.size, ok.serials, ok.consecutive, ok.cursors, fun m => ?_⟩
  rw [PerLane.get_set]
  split
  · exact Nat.zero_le _
  · exact ok.gaps m

/-- The serial that follows a held record is that of the next held record or the next serial. -/
theorem FaultLog.Ok.serialAfter_mem (ok : g.Ok) {r : Record} (held : r ∈ g.ring) : serialAfter r.serial ∈ g.serials := by
  obtain ⟨before, after, ring⟩ := List.append_of_mem held
  have chain := ok.serials_consecutive
  rw [FaultLog.serials, ring, List.map_append, List.append_assoc] at chain
  have chain' := chain.right_of_append
  rw [List.map_cons, List.cons_append] at chain'
  obtain ⟨first, -⟩ := List.isChain_cons.mp chain'
  cases after with
  | nil => rw [first g.next (by simp)]; simp [FaultLog.serials]
  | cons x xs => rw [first x.serial (by simp)]; simp [FaultLog.serials, ring]

theorem FaultLog.mem_of_mem_ahead {l : Lane} {r : Record} (h : r ∈ g.ahead l) : r ∈ g.ring := by
  unfold FaultLog.ahead at h
  split at h
  · cases h
  · exact (List.dropWhile_sublist _).subset h

theorem FaultLog.Ok.setCursor (ok : g.Ok) (l : Lane) {r : Record} (held : r ∈ g.ring) :
    FaultLog.Ok { g with cursors := g.cursors.set l (serialAfter r.serial) } := by
  refine ⟨ok.size, ok.serials, ok.consecutive, fun m => ?_, ok.gaps⟩
  rw [PerLane.get_set]
  split
  · exact ok.serialAfter_mem held
  · exact ok.cursors m

end log

theorem FaultLog.reset_ok : FaultLog.reset.Ok := by
  refine ⟨Nat.zero_le _, by simp [FaultLog.reset], .singleton _, fun l => ?_, fun l => ?_⟩ <;> cases l <;> decide

/-- The law of the Fault Log is kept by every deed: the log grows by appends, or a lane's gap count or cursor moves. -/
theorem kept_logOk : Kept fun s => s.log.Ok where
  pending _ _ ok := ok
  ports _ _ ok := ok
  advance _ _ ok := ok
  taken s l ok := by rw [State.noteTaken_eq]; exact ok
  deed d s _ ok := by
    obtain moved | ⟨-, same | ⟨_, _, _, config⟩⟩ | ⟨l, gone⟩ | ⟨l, r, held, acked⟩ := d.run_cases s
    · exact ok.grows moved.log
    · rw [same]; exact ok
    · rw [config]; exact ok
    · rw [gone]; exact ok.setGap l
    · rw [acked]; exact ok.setCursor l (FaultLog.mem_of_mem_ahead held)
  held := FaultLog.reset_ok
  reset _ _ := FaultLog.reset_ok

/-- Settles O53. -/
theorem logKept : Obligations.LogKept := fun _ _ ok h => kept_logOk.step h ok

/-! ## The digest -/

/-- The digest depends on the definitions and the settings alone. -/
theorem configDigest_congr {s t : State} (points : ∀ p, (t.point p).defn = (s.point p).defn)
    (banks : ∀ b, (t.bank b).defn = (s.bank b).defn) (settings : t.settings = s.settings) :
    t.configDigest = s.configDigest := by
  have points' : t.points.toList.map PointRec.defn = s.points.toList.map PointRec.defn := by
    refine List.ext_getElem (by simp) fun i hi _ => ?_
    simpa [State.point] using points ⟨i, by simpa using hi⟩
  have banks' : t.banks.toList.map BankRec.defn = s.banks.toList.map BankRec.defn := by
    refine List.ext_getElem (by simp) fun i hi _ => ?_
    simpa [State.bank] using banks ⟨i, by simpa using hi⟩
  have bytes (u : State) : configBytes u.points u.banks u.settings =
      (u.points.toList.map PointRec.defn).flatMap pointBytes ++ (u.banks.toList.map BankRec.defn).flatMap bankBytes ++
        allSettings.flatMap (fun n => twoBytes (u.settings.get n)) := by
    simp only [configBytes, List.flatMap_map]
  rw [State.configDigest, State.configDigest, bytes t, bytes s, points', banks', settings]

theorem DigestOk.moves {s t : State} (h : Moves s t) (ok : s.DigestOk) : t.DigestOk := by
  unfold State.DigestOk at *
  rw [h.digest, ok, configDigest_congr h.points h.banks h.settings]

theorem DigestOk.reconfigures {s t : State} (h : Reconfigures s t) (ok : s.DigestOk) : t.DigestOk := by
  obtain rfl | ⟨_, _, _, rfl⟩ := h
  · exact ok
  · rfl

/-- The digest named for the reset configuration is the one R184 computes (R132). -/
theorem afterReset_digestOk (power : PerLane PowerLine) : (State.afterReset power).DigestOk := by
  have computed : resetDigest = State.reset.configDigest := by decide +kernel
  exact computed

/-- The law of the digest is kept by every deed: the configuration stays, or its digest is computed again. -/
theorem kept_digestOk : Kept State.DigestOk where
  pending _ _ ok := ok
  ports _ _ ok := ok
  advance _ _ ok := ok
  taken s l ok := DigestOk.moves (.noteTaken s l) ok
  deed d s _ ok := by
    obtain moved | ⟨-, config⟩ | ⟨l, gone⟩ | ⟨l, r, held, acked⟩ := d.run_cases s
    · exact DigestOk.moves moved ok
    · exact DigestOk.reconfigures config ok
    · rw [gone]; exact ok
    · rw [acked]; exact ok
  held := afterReset_digestOk ⟨.high, .high, .high⟩
  reset power _ := afterReset_digestOk power

/-- Settles O54. -/
theorem digestKept : Obligations.DigestKept := fun _ _ ok h => kept_digestOk.step h ok

end Sys2Proof.Machine
end

section
/-! The configuration requests POINT, DROP, BANK and SET (R4 to R7, R86 to R88, R130, R131): which refusal each form and range check
gives, and what an accepted request leaves. -/

namespace Sys2Proof.Machine

-- One proof after another: elaborated side by side, the proofs of the whole text need more memory than the check gives.
set_option Elab.async false

/-! ## Requests at their owner -/

/-- A request is the arrival of a line with its verb. -/
theorem exec_requestOf (v : Verb) (dt : Nat) (l : Lane) (q : Byte) (fields : List Text) (s : State) :
    exec (requestOf v dt l q fields) s = requestArrives dt l q (verbText v) fields s := by cases v <;> rfl

/-- The line BANK b NONE comes as its own command too. -/
theorem exec_of_isRequest {c : Instr} {v : Verb} {dt : Nat} {l : Lane} {q : Byte} {fields : List Text}
    (h : IsRequest c v dt l q fields) (s : State) : exec c s = requestArrives dt l q (verbText v) fields s := by
  obtain rfl | ⟨rfl, b, rfl, rfl⟩ := h
  · exact exec_requestOf ..
  · rfl

section requests
variable {s t : State} {dt : Nat} {l : Lane} {q : Byte} {v : Verb} {fields body : List Text}

/-- A request that is taken at its own LF does what its owner does in the state that takes the line. -/
theorem exec_handled (hs : s.Listens l) (hq : resynchronises v = true ∨ (s.port l).expected = some q)
    (hx : s.role l ≠ .excluded ∨ servedExcluded v = true) (handled : handleVerb v l fields (s.taking dt l q) = (t, body)) :
    exec (requestOf v dt l q fields) s = .next (t.answered l q (requestText q (verbText v) fields) body) := by
  rw [exec_requestOf]
  exact requestArrives_handled hs hq hx handled

/-- In CONFIGURE the session holder's request is its owner's. -/
theorem guarded_owner {owner : State → State × List Text} (mode : s.mode = .configure) (holder : s.session = some l) :
    guarded l s owner = owner s := by
  rw [guarded, if_neg (not_not.mpr mode), if_neg (not_not.mpr holder)]

/-- A configuration request of the session holder in CONFIGURE does what its owner does. -/
theorem exec_configured {owner : State → State × List Text} (hs : s.Configures l q)
    (owned : ∀ u, handleVerb v l fields u = guarded l u owner) (handled : owner (s.taking dt l q) = (t, body)) :
    exec (requestOf v dt l q fields) s = .next (t.answered l q (requestText q (verbText v) fields) body) := by
  obtain ⟨⟨listens, expected⟩, role, mode, holder⟩ := hs
  refine exec_handled listens (.inr expected) (.inl role) ?_
  rw [owned, guarded_owner (by exact mode) (by exact holder), handled]

end requests

/-! ## Banks in use -/

/-- A bank in use is one that serves a defined point (R85). -/
theorem State.inUse_iff (s : State) (b : BankNo) : s.inUse b = true ↔ s.Serves b := by
  have some_point : (!(s.definedIn b).isEmpty) = true ↔ ∃ k : SlotNo, (s.point (pointAt b k)).defn.isSome = true := by
    simp [State.definedIn, bankPoints, PointRec.defined, Option.isSome_iff_ne_none]
  rw [State.inUse, Bool.and_eq_true, some_point]

/-- The re-evaluation of a bank and the new digest are those the statements speak of (R90, R132). -/
theorem State.reevaluateBank_recomputeDigest (s : State) (b : BankNo) :
    (s.reevaluateBank b).recomputeDigest = s.reconfigured b := by
  simp only [State.reevaluateBank, State.inUse_iff]
  rfl

/-! ## POINT -/

section point
variable {tp : Text} {p : Nat}

theorem asc_level_ne_discrete : asc "DISCRETE" ≠ asc "LEVEL" := by decide +kernel

/-- The first field that is no number is refused under its name. -/
theorem readNamed_bad {names good more : List Text} {bad name : Text} (read : ∀ x ∈ good, (readNumber x).isSome = true)
    (unread : readNumber bad = none) (at_bad : names[good.length]? = some name) :
    readNamed names (good ++ bad :: more) = .error name := by
  induction good generalizing names with
  | nil =>
    cases names with
    | nil => cases at_bad
    | cons n ns =>
      obtain rfl : n = name := by simpa using at_bad
      simp [readNamed, unread]
  | cons x xs ih =>
    cases names with
    | nil => cases at_bad
    | cons n ns =>
      obtain ⟨hx, hxs⟩ := List.forall_mem_cons.mp read
      obtain ⟨m, hm⟩ := Option.isSome_iff_exists.mp hx
      simp [readNamed, hm, ih hxs (by simpa using at_bad)]

/-- Where every field under a name is a number, a wrong number of fields is refused for its count. -/
theorem readNamed_count {names rest : List Text} (read : ∀ x ∈ rest.take names.length, (readNumber x).isSome = true)
    (wrong : rest.length ≠ names.length) : readNamed names rest = .error (asc "COUNT") := by
  induction names generalizing rest with
  | nil =>
    cases rest with
    | nil => exact absurd rfl wrong
    | cons => rfl
  | cons n ns ih =>
    cases rest with
    | nil => rfl
    | cons x xs =>
      obtain ⟨hx, hxs⟩ := List.forall_mem_cons.mp read
      obtain ⟨m, hm⟩ := Option.isSome_iff_exists.mp hx
      simp [readNamed, hm, ih hxs (by simpa using wrong)]

/-- A kind and the names of the number fields after it (R4). -/
abbrev pointKinds : List (Text × List Text) :=
  [(asc "LEVEL", [asc "MIN", asc "MAX", asc "TOL", asc "SAFE"]), (asc "DISCRETE", [asc "SAFE"])]

/-- A POINT whose number fields are refused is refused under the same name. -/
theorem pointForm_named {kind e : Text} {names rest : List Text} (number : readNumber tp = some p)
    (known : (kind, names) ∈ pointKinds) (refused : readNamed names rest = .error e) :
    pointForm (tp :: kind :: rest) = .error e := by
  obtain ⟨rfl, rfl⟩ | ⟨rfl, rfl⟩ : (kind = asc "LEVEL" ∧ names = _) ∨ kind = asc "DISCRETE" ∧ names = _ := by
    simpa using known
  · simp [pointForm, number, refused]
  · simp [pointForm, number, refused, asc_level_ne_discrete]

theorem pointForm_level {tmn tmx ttol tsafe : Text} {mn mx tol safe : Nat} (number : readNumber tp = some p)
    (hmn : readNumber tmn = some mn) (hmx : readNumber tmx = some mx) (htol : readNumber ttol = some tol)
    (hsafe : readNumber tsafe = some safe) :
    pointForm [tp, asc "LEVEL", tmn, tmx, ttol, tsafe] = .ok (.level p mn mx tol safe) := by
  simp [pointForm, readNamed, number, hmn, hmx, htol, hsafe]

theorem pointForm_discrete {tsafe : Text} {safe : Nat} (number : readNumber tp = some p)
    (hsafe : readNumber tsafe = some safe) : pointForm [tp, asc "DISCRETE", tsafe] = .ok (.discrete p safe) := by
  simp [pointForm, readNamed, number, hsafe, asc_level_ne_discrete]

theorem pointRange_level {mn mx tol safe : Nat} (q : PointNo) (h : mn < mx ∧ mx ≤ 4095 ∧ tol ≤ 255 ∧ mn ≤ safe ∧ safe ≤ mx) :
    pointRange (.level q.val mn mx tol safe) = .ok (q, { kind := .level, min := mn, max := mx, tol, safe }) := by
  obtain ⟨lt, max, tol_le, safe_ge, safe_le⟩ := h
  have h1 : ¬ 4095 < mn := by omega
  have h2 : ¬ (4095 < mx ∨ mx ≤ mn) := by omega
  have h3 : ¬ 255 < tol := by omega
  have h4 : ¬ (safe < mn ∨ mx < safe) := by omega
  simp [pointRange, q.isLt, h1, h2, h3, h4]

theorem pointRange_discrete {safe : Nat} (q : PointNo) (h : safe ≤ 1) :
    pointRange (.discrete q.val safe) = .ok (q, { kind := .discrete, min := 0, max := 1, tol := 0, safe }) := by
  have h1 : ¬ 1 < safe := by omega
  simp [pointRange, q.isLt, h1]

theorem pointRange_level_refused {mn mx tol safe : Nat}
    (h : ¬(p ≤ 63 ∧ mn < mx ∧ mx ≤ 4095 ∧ tol ≤ 255 ∧ mn ≤ safe ∧ safe ≤ mx)) :
    pointRange (.level p mn mx tol safe) = .error (
      if 63 < p then asc "POINT" else if 4095 < mn then asc "MIN" else if 4095 < mx ∨ mx ≤ mn then asc "MAX"
      else if 255 < tol then asc "TOL" else asc "SAFE") := by
  dsimp only [pointRange]
  by_cases hp : p < 64
  · have hp' : ¬ 63 < p := by omega
    rw [dif_pos hp, if_neg hp']
    split_ifs <;> first | rfl | omega
  · have hp' : 63 < p := by omega
    rw [dif_neg hp, if_pos hp']

theorem pointRange_discrete_refused {safe : Nat} (h : 63 < p ∨ 1 < safe) :
    pointRange (.discrete p safe) = .error (if 63 < p then asc "POINT" else asc "SAFE") := by
  dsimp only [pointRange]
  by_cases hp : p < 64
  · have hp' : ¬ 63 < p := by omega
    have hs : 1 < safe := by omega
    rw [dif_pos hp, if_neg hp', if_pos hs]
  · have hp' : 63 < p := by omega
    rw [dif_neg hp, if_pos hp']

variable {s : State} {fields : List Text}

theorem handlePoint_form {name : Text} (form : pointForm fields = .error name) :
    handlePoint fields s = (s, no "FIELD" [name]) := by
  rw [handlePoint, form]

theorem handlePoint_range {name : Text} {form : PointForm} (formed : pointForm fields = .ok form)
    (range : pointRange form = .error name) : handlePoint fields s = (s, no "RANGE" [name]) := by
  simp only [handlePoint, formed, range]

theorem handlePoint_accepted {form : PointForm} {q : PointNo} {d : PointDef} (formed : pointForm fields = .ok form)
    (range : pointRange form = .ok (q, d)) :
    handlePoint fields s =
      (State.reconfigured { s with points := s.points.set q (PointRec.inert d) } (bankOf q),
        [asc "OK", dec q.val, asc "DEFINED"]) := by
  simp only [handlePoint, formed, range, State.definePoint, State.afterPointChange, State.reevaluateBank_recomputeDigest]
  rfl

end point

/-- Settles O6: the form and range checks in their order, and `definePoint` as the re-evaluation of the point's bank. -/
theorem pointDefines : Obligations.PointDefines := by
  refine ⟨?level, ?discrete, fun s dt l q hs => ?refused⟩
  case level =>
    intro s dt l q p mn mx tol safe tp tmn tmx ttol tsafe hs hp hmn hmx htol hsafe lt max tol_le safe_ge safe_le
    exact exec_configured (v := .point) hs (fun _ => rfl)
      (handlePoint_accepted (pointForm_level hp hmn hmx htol hsafe) (pointRange_level p ⟨lt, max, tol_le, safe_ge, safe_le⟩))
  case discrete =>
    intro s dt l q p safe tp tsafe hs hp hsafe le
    exact exec_configured (v := .point) hs (fun _ => rfl)
      (handlePoint_accepted (pointForm_discrete hp hsafe) (pointRange_discrete p le))
  case refused =>
    have malformed {fields : List Text} {name : Text} (form : pointForm fields = .error name) :=
      exec_configured (v := .point) (dt := dt) hs (fun _ => rfl) (handlePoint_form form)
    have ranged {fields : List Text} {name : Text} {form : PointForm} (formed : pointForm fields = .ok form)
        (range : pointRange form = .error name) :=
      exec_configured (v := .point) (dt := dt) hs (fun _ => rfl) (handlePoint_range formed range)
    refine ⟨malformed rfl, fun tp rest bad => malformed ?number, fun tp p number => malformed ?short,
      fun tp p kind rest number level discrete => malformed ?kind, fun tp p kind names number known => ⟨?bad, ?count⟩,
      ?level, ?discrete⟩
    case number => simp [pointForm, bad]
    case short => simp [pointForm, number]
    case kind => simp [pointForm, number, level, discrete]
    case bad =>
      intro good bad more name read unread at_bad
      exact malformed (pointForm_named number known (readNamed_bad read unread at_bad))
    case count =>
      intro rest read wrong
      exact malformed (pointForm_named number known (readNamed_count read wrong))
    case level =>
      intro tp tmn tmx ttol tsafe p mn mx tol safe hp hmn hmx htol hsafe out
      exact ranged (pointForm_level hp hmn hmx htol hsafe) (pointRange_level_refused out)
    case discrete =>
      intro tp tsafe p safe hp hsafe out
      exact ranged (pointForm_discrete hp hsafe) (pointRange_discrete_refused out)

/-! ## BANK -/

section bank
variable {s : State} {fields rest : List Text} {tb ta tk : Text} {b addr link : Nat}

theorem handleBank_form {name : Text} (form : bankForm fields = .error name) :
    handleBank fields s = (s, no "FIELD" [name]) := by
  rw [handleBank, form]

/-- NONE is no number. -/
theorem readNumber_none : readNumber (asc "NONE") = none := by decide +kernel

theorem ne_none_of_readNumber (read : readNumber ta = some addr) : ta ≠ asc "NONE" := by
  rintro rfl
  rw [readNumber_none] at read
  cases read

theorem bankForm_define (hb : readNumber tb = some b) (ha : readNumber ta = some addr) (hk : readNumber tk = some link) :
    bankForm [tb, ta, tk] = .ok (.define b addr link) := by
  simp [bankForm, hb, ha, hk, ne_none_of_readNumber ha]

theorem bankForm_remove (hb : readNumber tb = some b) : bankForm [tb, asc "NONE"] = .ok (.remove b) := by
  simp [bankForm, hb]

/-- The bank that holds the address already is the one the clash names. -/
theorem State.clash_eq_some {c : BankNo} {d : BankDef} (e : BankNo) (other : c ≠ e) (held : (s.bank c).defn = some d)
    (same : d.address = addr) (sole : ∀ x f, x ≠ e → (s.bank x).defn = some f → f.address = addr → x = c) :
    s.clash e addr = some c := by
  have clashes : ∀ x, (decide (x ≠ e) && decide ((s.bank x).defn.map BankDef.address = some addr)) = true ↔ x = c := by
    intro x
    rw [Bool.and_eq_true, decide_eq_true_iff, decide_eq_true_iff]
    constructor
    · rintro ⟨hx, hf⟩
      obtain ⟨f, hf, ha⟩ := Option.map_eq_some_iff.mp hf
      exact sole x f hx hf ha
    · rintro rfl
      exact ⟨other, by rw [held, Option.map_some, same]⟩
  obtain ⟨x, hx⟩ : ∃ x, s.clash e addr = some x :=
    Option.isSome_iff_exists.mp (List.find?_isSome.mpr ⟨c, List.mem_finRange c, (clashes c).mpr rfl⟩)
  have found := List.find?_some (show List.find? _ _ = some x from hx)
  rw [hx, (clashes x).mp found]

theorem State.clash_eq_none (e : BankNo) (free : ∀ c d, c ≠ e → (s.bank c).defn = some d → d.address ≠ addr) :
    s.clash e addr = none := by
  refine List.find?_eq_none.mpr fun c _ h => ?_
  rw [Bool.and_eq_true, decide_eq_true_iff, decide_eq_true_iff] at h
  obtain ⟨d, hd, ha⟩ := Option.map_eq_some_iff.mp h.2
  exact free c d h.1 hd ha

/-- The number of a link in a BANK request (R86). -/
theorem link_of_number (k : LinkNo) : (if (match k with | .one => 1 | .two => 2) = 1 then LinkNo.one else .two) = k := by
  cases k <;> rfl

theorem handleBankDefine_ranged (e : BankNo) (lo : 1 ≤ addr) (hi : addr ≤ 31) (k : LinkNo) :
    handleBankDefine e.val addr (match k with | .one => 1 | .two => 2) s =
      match s.clash e addr with
      | some c => (s, no "CLASH" [dec c.val])
      | none => (s.defineBank e { address := addr, primary := k }, [asc "OK", dec e.val, asc "DEFINED"]) := by
  have h1 : ¬ (addr < 1 ∨ 31 < addr) := by omega
  have h2 : ¬ ((match k with | .one => 1 | .two => 2) ≠ 1 ∧ (match k with | .one => 1 | .two => 2) ≠ 2) := by
    cases k <;> decide
  unfold handleBankDefine
  rw [dif_pos e.isLt, if_neg h1, if_neg h2]
  cases k <;> rfl

theorem State.defineBank_eq (e : BankNo) (d : BankDef) :
    s.defineBank e d =
      State.reconfigured { s with banks := s.banks.set e { s.bank e with defn := some d, activeLink := some d.primary } } e :=
  State.reevaluateBank_recomputeDigest _ e

theorem handleBankDefine_refused (out : 7 < b ∨ addr < 1 ∨ 31 < addr ∨ link ≠ 1 ∧ link ≠ 2) :
    handleBankDefine b addr link s = (s, no "RANGE" [
      if 7 < b then asc "BANK" else if addr < 1 ∨ 31 < addr then asc "ADDRESS" else asc "LINK"]) := by
  unfold handleBankDefine
  by_cases hb : b < 8
  · have hb' : ¬ 7 < b := by omega
    rw [dif_pos hb, if_neg hb']
    by_cases ha : addr < 1 ∨ 31 < addr
    · rw [if_pos ha, if_pos ha]
    · have hk : link ≠ 1 ∧ link ≠ 2 := by tauto
      rw [if_neg ha, if_neg ha, if_pos hk]
  · have hb' : 7 < b := by omega
    rw [dif_neg hb, if_pos hb']

theorem handleBank_define (form : bankForm fields = .ok (.define b addr link)) :
    handleBank fields s = handleBankDefine b addr link s := by
  rw [handleBank, form]

theorem handleBank_remove (form : bankForm fields = .ok (.remove b)) : handleBank fields s = handleBankRemove b s := by
  rw [handleBank, form]

end bank

/-- Settles O7: a BANK of good form and range is judged by its clash alone, and `defineBank` is the re-evaluation of the bank. -/
theorem bankDefines : Obligations.BankDefines := by
  refine ⟨fun s dt l q b addr k tb ta tk hs hb ha lo hi hk => ?define, fun s dt l q hs => ?refused⟩
  case define =>
    have owner : handleBank [tb, ta, tk] (s.taking dt l q) = _ :=
      (handleBank_define (bankForm_define hb ha hk)).trans (handleBankDefine_ranged b lo hi k)
    refine ⟨fun free => ?_, fun c d other held same sole => ?_⟩
    · rw [State.clash_eq_none b (by exact free)] at owner
      dsimp only at owner
      rw [State.defineBank_eq] at owner
      exact exec_configured (v := .bank) hs (fun _ => rfl) owner
    · rw [State.clash_eq_some (c := c) b other (by exact held) same (by exact sole)] at owner
      exact exec_configured (v := .bank) hs (fun _ => rfl) owner
  case refused =>
    have malformed {fields : List Text} {name : Text} (form : bankForm fields = .error name) :=
      exec_configured (v := .bank) (dt := dt) hs (fun _ => rfl) (handleBank_form form)
    refine ⟨malformed rfl, fun tb rest bad => malformed (by simp [bankForm, bad]), fun tb b hb => ?fields⟩
    refine ⟨malformed (by simp [bankForm, hb]), fun f rest => malformed (by simp [bankForm, hb]),
      fun ta rest other bad => malformed (by simp [bankForm, hb, other, bad]), fun ta addr ha => ?address⟩
    have other := ne_none_of_readNumber ha
    refine ⟨malformed (by simp [bankForm, hb, ha, other]),
      fun tk rest bad => malformed (by simp [bankForm, hb, ha, other, bad]), fun tk link hk => ?link⟩
    refine ⟨fun f rest => malformed (by simp [bankForm, hb, ha, other, hk]), fun out => ?range⟩
    exact exec_configured (v := .bank) hs (fun _ => rfl)
      ((handleBank_define (bankForm_define hb ha hk)).trans (handleBankDefine_refused out))

/-! ## DROP and BANK b NONE -/

section removal
variable {s : State} {fields : List Text} {tp : Text}

theorem handleDrop_form {name : Text} (form : dropForm fields = .error name) :
    handleDrop fields s = (s, no "FIELD" [name]) := by
  rw [handleDrop, form]

theorem handleDrop_range {n : Nat} (form : dropForm fields = .ok n) (out : 63 < n) :
    handleDrop fields s = (s, no "RANGE" [asc "POINT"]) := by
  simp only [handleDrop, form]
  rw [dif_neg (by omega)]

theorem handleDrop_point {p : PointNo} (form : dropForm fields = .ok p.val) :
    handleDrop fields s =
      if (s.point p).defn.isSome then
        (State.reconfigured { s with points := s.points.set p PointRec.blank } (bankOf p), [asc "OK", dec p.val, asc "DROPPED"])
      else (s, no "UNDEFINED" [dec p.val]) := by
  simp only [handleDrop, form]
  rw [dif_pos p.isLt]
  simp only [State.afterPointChange, State.reevaluateBank_recomputeDigest]
  rfl

/-- An undefined bank is not in use: its removal leaves it as a re-evaluation would. -/
theorem State.removeBank_eq (b : BankNo) :
    s.removeBank b = State.reconfigured { s with banks := s.banks.set b { s.bank b with defn := none } } b := by
  have unused : State.inUse (s.setBank b { s.bank b with defn := none }) b = false := by simp [State.inUse]
  rw [← State.reevaluateBank_recomputeDigest]
  change s.removeBank b = ((s.setBank b { s.bank b with defn := none }).reevaluateBank b).recomputeDigest
  rw [State.reevaluateBank, unused, State.setBank_bank_self, State.setBank_setBank]
  rfl

theorem handleBankRemove_bank (b : BankNo) :
    handleBankRemove b.val s =
      if (s.bank b).defn.isSome then
        (State.reconfigured { s with banks := s.banks.set b { s.bank b with defn := none } } b,
          [asc "OK", dec b.val, asc "REMOVED"])
      else (s, no "UNDEFINED" [dec b.val]) := by
  rw [handleBankRemove, dif_pos b.isLt, State.removeBank_eq]

theorem handleBankRemove_range {n : Nat} (out : 7 < n) : handleBankRemove n s = (s, no "RANGE" [asc "BANK"]) := by
  rw [handleBankRemove, dif_neg (by omega)]

end removal

/-- An outcome that depends on a condition that the taking of the line keeps. -/
theorem answered_ite {α : Prop} [Decidable α] {l : Lane} {q : Byte} {line : Text} {t u : State} {x y : List Text}
    {r : State × List Text} (h : r = if α then (t, x) else (u, y)) :
    r.1.answered l q line r.2 = if α then t.answered l q line x else u.answered l q line y := by
  subst h; split <;> rfl

/-- Settles O8: DROP and the removal of a bank end in the re-evaluation of the bank too. -/
theorem definitionsRemoved : Obligations.DefinitionsRemoved := by
  refine ⟨fun s dt l q tp hs => ⟨fun p hp => ?drop, fun n hn out => ?range⟩, fun s dt l q hs => ?form,
    fun s dt l q tb hs => ⟨fun b hb => ?remove, fun n hn out => ?bankRange, fun bad => ?bankForm⟩⟩
  case drop =>
    have owner := handleDrop_point (s := s.taking dt l q) (p := p) (oneField_read _ _ _ hp)
    exact (exec_configured (v := .drop) hs (fun _ => rfl) rfl).trans (congrArg _ (answered_ite owner))
  case range =>
    exact exec_configured (v := .drop) hs (fun _ => rfl) (handleDrop_range (oneField_read _ _ _ hn) out)
  case form =>
    have malformed {fields : List Text} {name : Text} (form : dropForm fields = .error name) :=
      exec_configured (v := .drop) (dt := dt) hs (fun _ => rfl) (handleDrop_form form)
    exact ⟨malformed rfl, fun t bad => malformed (oneField_bad _ _ _ bad), fun _ _ _ => malformed rfl⟩
  case remove =>
    have owner := (handleBank_remove (s := s.taking dt l q) (bankForm_remove hb)).trans (handleBankRemove_bank b)
    exact (exec_configured (v := .bank) hs (fun _ => rfl) rfl).trans (congrArg _ (answered_ite owner))
  case bankRange =>
    exact exec_configured (v := .bank) hs (fun _ => rfl)
      ((handleBank_remove (bankForm_remove hn)).trans (handleBankRemove_range out))
  case bankForm =>
    exact exec_configured (v := .bank) hs (fun _ => rfl) (handleBank_form (by simp [bankForm, bad]))

/-! ## SET -/

section settings
variable {s : State} {fields : List Text}

theorem Settings.get_put_self (g : Settings) (n : SettingName) (v : Nat) : (g.put n v).get n = v := by cases n <;> rfl

theorem Settings.get_put_ne (g : Settings) {n m : SettingName} (v : Nat) (other : m ≠ n) : (g.put n v).get m = g.get m := by
  cases n <;> cases m <;> first | rfl | exact absurd rfl other

theorem readSetting_settingText (n : SettingName) : readSetting (settingText n) = some n := by cases n <;> decide +kernel

theorem SettingName.mem_all (n : SettingName) : n ∈ allSettings := by cases n <;> decide

theorem readSetting_eq_none {t : Text} (none_named : ∀ n, t ≠ settingText n) : readSetting t = none :=
  List.find?_eq_none.mpr fun n _ => by simpa using (none_named n).symm

theorem setForm_value {n : SettingName} {tv : Text} {v : Nat} (hv : readNumber tv = some v) :
    setForm [settingText n, tv] = .ok (n, v) := by
  simp [setForm, readSetting_settingText, hv]

theorem handleSet_form {name : Text} (form : setForm fields = .error name) : handleSet fields s = (s, no "FIELD" [name]) := by
  rw [handleSet, form]

theorem handleSet_range {n : SettingName} {v : Nat} (form : setForm fields = .ok (n, v))
    (out : v < (settingRange n).1 ∨ (settingRange n).2 < v) : handleSet fields s = (s, no "RANGE" [settingText n]) := by
  simp only [handleSet, form, if_pos out]

theorem handleSet_accepted {n : SettingName} {v : Nat} (form : setForm fields = .ok (n, v)) (lo : (settingRange n).1 ≤ v)
    (hi : v ≤ (settingRange n).2) :
    handleSet fields s =
      ({ s with settings := s.settings.put n v, digest := crc32 (configBytes s.points s.banks (s.settings.put n v)) },
        [asc "OK", settingText n, dec v]) := by
  have inside : ¬ (v < (settingRange n).1 ∨ (settingRange n).2 < v) := by omega
  simp only [handleSet, form, if_neg inside]
  rfl

end settings

/-- Settles O11: the settings after an accepted SET are `put`. -/
theorem setChanges : Obligations.SetChanges := by
  refine ⟨fun s dt l q n v tv hs hv => ⟨fun lo hi => ?accepted, fun out => ?range⟩, fun s dt l q hs => ?form⟩
  case accepted =>
    refine ⟨s.settings.put n v, Settings.get_put_self .., fun m => Settings.get_put_ne _ _, ?_⟩
    exact exec_configured (v := .setSetting) hs (fun _ => rfl) (handleSet_accepted (setForm_value hv) lo hi)
  case range =>
    exact exec_configured (v := .setSetting) hs (fun _ => rfl) (handleSet_range (setForm_value hv) out)
  case form =>
    have malformed {fields : List Text} {name : Text} (form : setForm fields = .error name) :=
      exec_configured (v := .setSetting) (dt := dt) hs (fun _ => rfl) (handleSet_form form)
    refine ⟨malformed rfl, fun tn rest unnamed => malformed ?_, fun n => ⟨malformed ?_, fun tv rest bad => malformed ?_,
      fun tv v f rest hv => malformed ?_⟩⟩
    · simp [setForm, readSetting_eq_none unnamed]
    · simp [setForm, readSetting_settingText]
    · simp [setForm, readSetting_settingText, bad]
    · simp [setForm, readSetting_settingText, hv]

/-! ## The checks of R125 -/

theorem guarded_mode {l : Lane} {s : State} (owner : State → State × List Text) (mode : s.mode ≠ .configure) :
    guarded l s owner = (s, no "MODE" []) := by
  rw [guarded, if_pos mode]

theorem guarded_session {l : Lane} {s : State} (owner : State → State × List Text) (mode : s.mode = .configure)
    (holder : s.session ≠ some l) : guarded l s owner = (s, no "SESSION" [laneOrNone s.session]) := by
  rw [guarded, if_neg (not_not.mpr mode), if_pos holder]

/-- The five configuration verbs pass the checks of R125 first. -/
theorem handleVerb_guarded {v : Verb} (hv : v ∈ [Verb.point, .drop, .bank, .setSetting, .start]) (l : Lane) (fields : List Text) :
    ∃ owner, ∀ s, handleVerb v l fields s = guarded l s owner := by
  fin_cases hv <;> exact ⟨_, fun _ => rfl⟩

/-- Settles O12: a configuration request is `guarded`, whatever its owner and fields. -/
theorem configurationRefused : Obligations.ConfigurationRefused := by
  intro s dt l q c v fields hv hc hs hx
  obtain ⟨owner, owned⟩ := handleVerb_guarded hv l fields
  rw [exec_of_isRequest hc]
  refine ⟨fun mode => ?mode, fun mode holder => ?session⟩
  case mode =>
    exact requestArrives_handled hs.1 (.inr hs.2) (.inl hx) ((owned _).trans (guarded_mode owner (by exact mode)))
  case session =>
    rw [requestArrives_handled hs.1 (.inr hs.2) (.inl hx)
      ((owned _).trans (guarded_session owner (by exact mode) (by exact holder)))]
    rw [State.taking_session]
    cases s.session <;> rfl

/-! ## CLOSE -/

section closeChecks
variable {l : Lane} {fields : List Text} {s : State}

theorem handleClose_count (some_field : fields ≠ []) : handleClose l fields s = (s, no "FIELD" [asc "COUNT"]) := by
  rw [handleClose, if_pos some_field]

theorem handleClose_mode (mode : s.mode ≠ .configure) : handleClose l [] s = (s, no "MODE" []) := by
  rw [handleClose, if_neg (not_not.mpr rfl), if_pos mode]

theorem handleClose_session (mode : s.mode = .configure) (holder : s.session ≠ some l) :
    handleClose l [] s = (s, no "SESSION" [laneOrNone s.session]) := by
  rw [handleClose, if_neg (not_not.mpr rfl), if_neg (not_not.mpr mode), if_pos holder]

theorem handleClose_accepted (mode : s.mode = .configure) (holder : s.session = some l) :
    handleClose l [] s = (s.releaseSession, [asc "OK", asc "RELEASED"]) := by
  rw [handleClose, if_neg (not_not.mpr rfl), if_neg (not_not.mpr mode), if_neg (not_not.mpr holder)]

end closeChecks

/-- Settles O10: each check of R127 is made on what the taking of the line keeps, the mode and the session. -/
theorem closeReleasesSession : Obligations.CloseReleasesSession := by
  intro s dt l q fields hs hx
  have answers {t : State} {body : List Text} (handled : handleClose l fields (s.taking dt l q) = (t, body)) :=
    exec_handled (v := .closeSession) hs.1 (.inr hs.2) (.inl hx) handled
  refine ⟨fun some_field => answers (handleClose_count some_field), ?mode, ?free, fun h => ?other, ?accepted⟩
  case mode => rintro rfl mode; exact answers (handleClose_mode mode)
  case free =>
    rintro rfl mode free
    have handled := handleClose_session (s := s.taking dt l q) (l := l) mode (by simp [free])
    rw [State.taking_session, free] at handled
    exact answers handled
  case other =>
    rintro rfl mode holder other
    have handled := handleClose_session (s := s.taking dt l q) (l := l) mode (by simpa [holder] using other)
    rw [State.taking_session, holder] at handled
    exact answers handled
  case accepted => rintro rfl mode holder; exact answers (handleClose_accepted mode holder)

end Sys2Proof.Machine
end

section
/-! START, RESUME, JOIN and RESTART (R133 to R140, R46, R47): which refusal each check gives, and the state that an accepted request
leaves. -/

namespace Sys2Proof.Machine

-- One proof after another: elaborated side by side, the proofs of the whole text need more memory than the check gives.
set_option Elab.async false

/-! ## The first of a run of numbers -/

/-- The number the search finds among all is the lowest that passes. -/
theorem find?_finRange_eq_some {n : Nat} {f : Fin n → Bool} {b : Fin n} (passes : f b = true)
    (first : ∀ e, e < b → f e = false) : (List.finRange n).find? f = some b := by
  refine List.find?_eq_some_iff_getElem.mpr ⟨passes, b.val, by simp, by simp, fun j hj => ?_⟩
  have := first ⟨j, hj.trans b.isLt⟩ hj
  simpa using this

/-! ## START -/

section start
variable {s : State} {l : Lane} {fields : List Text} {d : Digest}

theorem handleStart_form {name : Text} (form : digestForm fields = .error name) :
    handleStart l fields s = (s, no "FIELD" [name]) := by
  rw [handleStart, form]

theorem handleStart_power (form : digestForm fields = .ok d) (power : (s.lane l).power ≠ .high) :
    handleStart l fields s = (s, no "POWER" [powerText (s.lane l).power]) := by
  simp only [handleStart, form, if_pos power]

theorem handleStart_digest (form : digestForm fields = .ok d) (power : (s.lane l).power = .high) (other : d ≠ s.digest) :
    handleStart l fields s = (s, no "DIGEST" []) := by
  simp only [handleStart, form, if_neg (not_not.mpr power), if_pos other]

theorem handleStart_points (form : digestForm fields = .ok s.digest) (power : (s.lane l).power = .high)
    (none_defined : s.countDefined = 0) : handleStart l fields s = (s, no "RANGE" [asc "POINT"]) := by
  simp only [handleStart, form, if_neg (not_not.mpr power), ne_eq, not_true, if_false, if_pos none_defined]

theorem handleStart_bank {b : BankNo} (form : digestForm fields = .ok s.digest) (power : (s.lane l).power = .high)
    (some_defined : s.countDefined ≠ 0) (missing : s.missingBank = some b) :
    handleStart l fields s = (s, no "UNDEFINED" [dec b.val]) := by
  simp only [handleStart, form, if_neg (not_not.mpr power), ne_eq, not_true, if_false, if_neg some_defined, missing]

theorem handleStart_accepted (form : digestForm fields = .ok s.digest) (power : (s.lane l).power = .high)
    (some_defined : s.countDefined ≠ 0) (complete : s.missingBank = none) :
    handleStart l fields s = (s.startUp l, [asc "OK", asc "STARTED", asc "1"]) := by
  simp only [handleStart, form, if_neg (not_not.mpr power), ne_eq, not_true, if_false, if_neg some_defined, complete]

theorem State.countDefined_eq_zero_iff : s.countDefined = 0 ↔ ∀ p, (s.point p).defn = none := by
  simp [State.countDefined, PointRec.defined]

theorem State.definedIn_isEmpty_iff (b : BankNo) :
    (s.definedIn b).isEmpty = true ↔ ∀ i, (s.point (pointAt b i)).defn = none := by
  simp [State.definedIn, bankPoints, PointRec.defined]

/-- A bank that holds a defined point and is not defined (R133). -/
theorem State.missing_iff (b : BankNo) : (!(s.definedIn b).isEmpty && (s.bank b).defn.isNone) = true ↔
    (∃ i, (s.point (pointAt b i)).defn.isSome = true) ∧ (s.bank b).defn = none := by
  rw [Bool.and_eq_true, Bool.not_eq_true', ← Bool.not_eq_true, State.definedIn_isEmpty_iff, not_forall]
  simp only [Option.isNone_iff_eq_none, Option.isSome_iff_ne_none]

theorem State.missingBank_eq_none (complete : ∀ p, (s.point p).defn.isSome = true → (s.bank (bankOf p)).defn.isSome = true) :
    s.missingBank = none := by
  refine List.find?_eq_none.mpr fun b _ missing => ?_
  obtain ⟨⟨i, hi⟩, hb⟩ := (s.missing_iff b).mp missing
  have := complete _ hi
  rw [bankOf_pointAt, hb] at this
  cases this

theorem State.missingBank_eq_some {b : BankNo} (undefined : (s.bank b).defn = none)
    (used : ∃ i, (s.point (pointAt b i)).defn.isSome = true)
    (lower : ∀ e i, e < b → (s.point (pointAt e i)).defn.isSome = true → (s.bank e).defn.isSome = true) :
    s.missingBank = some b := by
  refine find?_finRange_eq_some ((s.missing_iff b).mpr ⟨used, undefined⟩) fun e he => ?_
  refine Bool.eq_false_iff.mpr fun missing => ?_
  obtain ⟨⟨i, hi⟩, hb⟩ := (s.missing_iff e).mp missing
  have := lower e i he hi
  rw [hb] at this
  cases this

theorem PointRec.started_eq (r : PointRec) : r.started = match r.defn with
    | none => r
    | some d => { defn := some d, target := some d.safe, applied := none, state := .pending, splits := 0, changed := none } := by
  unfold PointRec.started
  cases r.defn with
  | none => rfl
  | some d => rfl

/-- START up to its points, before the banks are warmed (R134). -/
def State.begun (s : State) (l : Lane) : State :=
  { s with
    mode := .run, session := none, idle := none, round := 1, collecting := some Collecting.empty, summary := none
    lanes := s.lanes.set l ((s.lane l).takeOffice (s.expiry s.settings.quiet))
    points := Vector.ofFn fun p => (s.point p).started }

/-- A bank after START (R91, R134). -/
def State.bankBegun (s : State) (b : BankNo) : BankRec :=
  if s.Serves b then (s.bank b).warmed (s.expiry s.settings.settle) else s.bank b

/-- START leaves the definitions, and so which banks are in use. -/
theorem State.inUse_of_started {t : State} (points : ∀ p, (t.point p).defn = (s.point p).defn)
    (banks : ∀ b, (t.bank b).defn = (s.bank b).defn) : t.inUse = fun b => decide (s.Serves b) := by
  funext b
  refine Bool.eq_iff_iff.mpr ((t.inUse_iff b).trans ?_)
  simp only [State.Serves, points, banks, decide_eq_true_iff]

theorem State.begun_point_defn (p : PointNo) : ((s.begun l).point p).defn = (s.point p).defn := by
  simp [State.begun, State.point, PointRec.started_defn]

theorem State.bankBegun_defn (b : BankNo) : (s.bankBegun b).defn = (s.bank b).defn := by
  unfold State.bankBegun; split <;> rfl

/-- The state after START, as its part of the statement writes it: points started, banks in use warmed, both counted (R134). -/
theorem State.startUp_eq (s : State) (l : Lane) :
    s.startUp l = State.append { s.begun l with banks := Vector.ofFn s.bankBegun }
      { code := .started, lane := some l, round := some 1,
        values := [((List.finRange 64).filter fun p => (s.point p).defn.isSome).length,
                   ((List.finRange 8).filter fun b => decide (s.Serves b)).length] } := by
  have uses : (s.begun l).inUse = fun b => decide (s.Serves b) :=
    State.inUse_of_started State.begun_point_defn fun _ => rfl
  have warmed : (fun b => if (s.begun l).inUse b then ((s.begun l).bank b).warmed ((s.begun l).expiry (s.begun l).settings.settle)
      else (s.begun l).bank b) = s.bankBegun := by
    funext b
    rw [uses]
    exact if_congr decide_eq_true_iff rfl rfl
  have counted : State.countInUse { s.begun l with banks := Vector.ofFn s.bankBegun } =
      ((List.finRange 8).filter fun b => decide (s.Serves b)).length := by
    refine congrArg (fun f => ((List.finRange 8).filter f).length)
      (State.inUse_of_started (fun p => State.begun_point_defn (l := l) p) fun b => ?_)
    rw [← s.bankBegun_defn b]
    simp [State.bank]
  have defined : State.countDefined { s.begun l with banks := Vector.ofFn s.bankBegun } =
      ((List.finRange 64).filter fun p => (s.point p).defn.isSome).length :=
    congrArg (fun f => ((List.finRange 64).filter f).length) (funext fun p => congrArg Option.isSome (State.begun_point_defn (l := l) p))
  rw [← counted, ← defined, ← warmed]
  rfl

end start

/-- The quiet timer that a taken line restarts starts anew for a lane that takes office. -/
theorem LaneRec.takeOffice_restartQuiet (r : LaneRec) (e f : Moment) : (r.restartQuiet e).takeOffice f = r.takeOffice f := rfl

/-- What a taken line leaves of the records of all lanes, once that of its own lane is written. -/
theorem State.taking_lanes_set (s : State) (dt : Nat) (l : Lane) (q : Byte) (r : LaneRec) :
    (s.taking dt l q).lanes.set l r = s.lanes.set l r := PerLane.set_set ..

/-- Settles O13: the checks in their order, and the state of `startUp_eq` with the points written out. -/
theorem startRuns : Obligations.StartRuns := by
  refine ⟨fun s dt l q td hs read power some_defined complete => ?accepted, fun s dt l q hs => ?refused⟩
  case accepted =>
    have counted : (s.taking dt l q).countDefined ≠ 0 := fun zero => by
      obtain ⟨p, hp⟩ := some_defined
      have undefined : (s.point p).defn = none := State.countDefined_eq_zero_iff.mp zero p
      rw [undefined] at hp
      cases hp
    have handled := handleStart_accepted (s := s.taking dt l q) (digestForm_read read)
      (by rw [State.taking_lane_power, power]) counted (State.missingBank_eq_none complete)
    simp only [State.startUp_eq, State.begun, State.taking_lane_self, LaneRec.takeOffice_restartQuiet, State.taking_lanes_set,
      PointRec.started_eq] at handled
    exact exec_configured (v := .start) hs (fun _ => rfl) handled
  case refused =>
    have owned {fields why : List Text} (handled : handleStart l fields (s.taking dt l q) = (s.taking dt l q, why)) :=
      exec_configured (v := .start) hs (fun _ => rfl) handled
    refine ⟨⟨owned (handleStart_form rfl), fun t bad => owned (handleStart_form (oneField_bad _ _ _ bad)),
      fun _ _ _ => owned (handleStart_form rfl)⟩, fun td d read => ?checks⟩
    have form := digestForm_read read
    rw [← State.taking_lane_power s dt l q]
    refine ⟨fun power => owned (handleStart_power form power), fun power other => owned (handleStart_digest form power other),
      fun power same undefined => ?points, fun b power same undefined used lower => ?bank⟩
    case points =>
      subst same
      exact owned (handleStart_points form power (State.countDefined_eq_zero_iff.mpr undefined))
    case bank =>
      subst same
      have counted : (s.taking dt l q).countDefined ≠ 0 := fun zero => by
        obtain ⟨i, hi⟩ := used
        have undefined : (s.point (pointAt b i)).defn = none := State.countDefined_eq_zero_iff.mp zero _
        rw [undefined] at hi
        cases hi
      exact owned (handleStart_bank form power counted (State.missingBank_eq_some undefined used lower))

/-! ## JOIN and RESUME -/

section entry
variable {s : State} {l : Lane} {fields : List Text} {d : Digest}

/-- The wait has passed exactly where the lane may enter (R46, R57). -/
theorem State.waits_eq_none_iff : s.waits l = none ↔ s.MayEnter l := by
  unfold State.waits State.MayEnter
  cases (s.lane l).suspendedUntil with
  | none => simp
  | some u => simp [reached_iff]

theorem State.waits_eq_some {u : Time} (wait : (s.lane l).suspendedUntil = some u) (ahead : ¬ Due s.now u) :
    s.waits l = some (u - s.now).toNat := by
  have unreached : ¬ reached s.now u = true := fun h => ahead ((reached_iff _ _).mp h)
  simp only [State.waits, wait, if_neg unreached]
  rfl

/-- A lane that may ask to enter: ABSENT or SUSPENDED (R46, R137). -/
abbrev Role.outside (r : Role) : Prop := r = .absent ∨ r = .suspended

theorem State.entryRefusal_role (role : ¬ (s.role l).outside) :
    s.entryRefusal l d = some (no "ROLE" [roleText (s.role l)]) := by
  rw [State.entryRefusal, if_pos (not_or.mp role)]

theorem State.entryRefusal_wait {n : Nat} (role : (s.role l).outside) (wait : s.waits l = some n) :
    s.entryRefusal l d = some (no "WAIT" [dec n]) := by
  rw [State.entryRefusal, if_neg (by tauto), wait]

theorem State.entryRefusal_power (role : (s.role l).outside) (passed : s.waits l = none) (power : (s.lane l).power ≠ .high) :
    s.entryRefusal l d = some (no "POWER" [powerText (s.lane l).power]) := by
  rw [State.entryRefusal, if_neg (by tauto), passed]
  exact if_pos power

theorem State.entryRefusal_digest (role : (s.role l).outside) (passed : s.waits l = none) (power : (s.lane l).power = .high)
    (other : d ≠ s.digest) : s.entryRefusal l d = some (no "DIGEST" []) := by
  rw [State.entryRefusal, if_neg (by tauto), passed]
  simp only [if_neg (not_not.mpr power), if_pos other]

theorem State.entryRefusal_none (role : (s.role l).outside) (passed : s.waits l = none) (power : (s.lane l).power = .high) :
    s.entryRefusal l s.digest = none := by
  rw [State.entryRefusal, if_neg (by tauto), passed]
  simp only [if_neg (not_not.mpr power), ne_eq, not_true, if_false]

theorem handleResume_form {name : Text} (form : digestForm fields = .error name) :
    handleResume l fields s = (s, no "FIELD" [name]) := by
  rw [handleResume, form]

theorem handleResume_mode (form : digestForm fields = .ok d) (mode : s.mode ≠ .safe) :
    handleResume l fields s = (s, no "MODE" []) := by
  simp only [handleResume, form, if_pos mode]

theorem handleResume_refused {why : List Text} (form : digestForm fields = .ok d) (mode : s.mode = .safe)
    (refusal : s.entryRefusal l d = some why) : handleResume l fields s = (s, why) := by
  simp only [handleResume, form, if_neg (not_not.mpr mode), refusal]

theorem handleResume_accepted (form : digestForm fields = .ok d) (mode : s.mode = .safe)
    (refusal : s.entryRefusal l d = none) :
    handleResume l fields s = (s.resumeRun l, [asc "OK", asc "RESUMED", dec s.round]) := by
  simp only [handleResume, form, if_neg (not_not.mpr mode), refusal]

theorem handleJoin_form {name : Text} (form : digestForm fields = .error name) :
    handleJoin l fields s = (s, no "FIELD" [name]) := by
  rw [handleJoin, form]

theorem handleJoin_mode (form : digestForm fields = .ok d) (mode : s.mode ≠ .run) :
    handleJoin l fields s = (s, no "MODE" []) := by
  simp only [handleJoin, form, if_pos mode]

theorem handleJoin_refused {why : List Text} (form : digestForm fields = .ok d) (mode : s.mode = .run)
    (refusal : s.entryRefusal l d = some why) : handleJoin l fields s = (s, why) := by
  simp only [handleJoin, form, if_neg (not_not.mpr mode), refusal]

theorem handleJoin_accepted (form : digestForm fields = .ok d) (mode : s.mode = .run)
    (refusal : s.entryRefusal l d = none) :
    handleJoin l fields s = (s.joinLane l, [asc "OK", asc "JOINED", dec s.round]) := by
  simp only [handleJoin, form, if_neg (not_not.mpr mode), refusal]

/-- The wait of a lane is not touched by the line that asks to enter. -/
theorem State.taking_mayEnter (s : State) (dt : Nat) (l : Lane) (q : Byte) :
    (s.taking dt l q).MayEnter l ↔ (s.advance dt).MayEnter l := by
  unfold State.MayEnter
  rw [State.taking_lane_self]
  rfl

/-- RESUME: the lane takes office and the round collects anew (R138). -/
theorem State.taking_resumeRun (s : State) (dt : Nat) (l : Lane) (q : Byte) :
    (s.taking dt l q).resumeRun l =
      State.append { s.taking dt l q with
          mode := .run, collecting := some Collecting.empty
          lanes := s.lanes.set l ((s.lane l).takeOffice ((s.advance dt).expiry s.settings.quiet)) }
        { code := .resumed, lane := some l, round := some s.round } := by
  have lane : State.lane { s.taking dt l q with mode := .run } l =
      (s.lane l).restartQuiet ((s.advance dt).expiry s.settings.quiet) := State.taking_lane_self s dt l q
  rw [State.resumeRun, lane, LaneRec.takeOffice_restartQuiet]
  exact congrArg (fun lanes => State.append { s.taking dt l q with
    mode := .run, collecting := some Collecting.empty, lanes := lanes } _) (State.taking_lanes_set s dt l q _)

/-- A lane record as an accepted JOIN leaves it (R47). -/
def LaneRec.joined (r : LaneRec) (quiet : Moment) : LaneRec :=
  { r with role := .probation, probClean := 0, probFails := 0, strikes := 0, streak := 0, suspendedUntil := none,
           quiet := some quiet }

theorem State.taking_joinLane (s : State) (dt : Nat) (l : Lane) (q : Byte) :
    (s.taking dt l q).joinLane l =
      State.append { s.taking dt l q with
          lanes := s.lanes.set l ((s.lane l).joined ((s.advance dt).expiry s.settings.quiet)) }
        { code := .joined, lane := some l, round := some s.round, values := [(s.lane l).suspensions] } := by
  rw [State.joinLane, State.taking_lane_self]
  exact congrArg (fun lanes => State.append { s.taking dt l q with lanes := lanes } _) (State.taking_lanes_set s dt l q _)

/-- The refusals that JOIN and RESUME share, from what the taking of the line keeps: `enters` is the request past its mode check. -/
theorem entry_refusals {s : State} {dt : Nat} {q : Byte} {refused : List Text → Prop}
    (enters : ∀ why, (s.taking dt l q).entryRefusal l d = some why → refused why) :
    (¬ (s.role l).outside → refused (no "ROLE" [roleText (s.role l)])) ∧
    (∀ u, (s.role l).outside → (s.lane l).suspendedUntil = some u → ¬ Due (s.advance dt).now u →
      refused (no "WAIT" [dec (u - (s.advance dt).now).toNat])) ∧
    ((s.role l).outside → (s.advance dt).MayEnter l → (s.lane l).power ≠ .high →
      refused (no "POWER" [powerText (s.lane l).power])) ∧
    ((s.role l).outside → (s.advance dt).MayEnter l → (s.lane l).power = .high → d ≠ s.digest → refused (no "DIGEST" [])) := by
  rw [← State.taking_role s dt l l q, ← State.taking_lane_power s dt l q, ← State.taking_mayEnter s dt l q,
    ← State.waits_eq_none_iff]
  refine ⟨fun role => enters _ (State.entryRefusal_role role), fun u role wait ahead => enters _ ?_,
    fun role passed power => enters _ (State.entryRefusal_power role passed power),
    fun role passed power other => enters _ (State.entryRefusal_digest role passed power other)⟩
  exact State.entryRefusal_wait role (State.waits_eq_some (by rw [State.taking_lane_self]; exact wait) ahead)

end entry

/-- Settles O14: the checks of R137 in their order, the four it shares with JOIN by `entry_refusals`. -/
theorem resumeRuns : Obligations.ResumeRuns := by
  intro s dt l q hs hx
  have answers {fields body : List Text} {t : State} (handled : handleResume l fields (s.taking dt l q) = (t, body)) :=
    exec_handled (v := .resume) hs (.inl rfl) (.inl hx) handled
  refine ⟨fun td mode role enter power read => ?accepted,
    ⟨answers (handleResume_form rfl), fun t bad => answers (handleResume_form (oneField_bad _ _ _ bad)),
      fun _ _ _ => answers (handleResume_form rfl)⟩, fun td d read => ?checks⟩
  case accepted =>
    have admitted := State.entryRefusal_none (s := s.taking dt l q) (l := l) (by simpa using role)
      (State.waits_eq_none_iff.mpr ((s.taking_mayEnter dt l q).mpr enter)) (by rw [State.taking_lane_power, power])
    have handled := handleResume_accepted (digestForm_read read) (by exact mode) admitted
    rw [State.taking_resumeRun] at handled
    exact answers handled
  case checks =>
    have form := digestForm_read read
    have shared (mode : s.mode = .safe) := entry_refusals (s := s) (d := d) (q := q) fun why refusal =>
      answers (handleResume_refused form (by exact mode) refusal)
    refine ⟨fun mode => answers (handleResume_mode form mode), fun mode => (shared mode).1, fun u mode => (shared mode).2.1 u,
      fun mode => (shared mode).2.2.1, fun mode => (shared mode).2.2.2⟩

/-- Settles O24: the checks of R46 in their order, the four it shares with RESUME by `entry_refusals`. -/
theorem joinEnters : Obligations.JoinEnters := by
  intro s dt l q hs hx
  have answers {fields body : List Text} {t : State} (handled : handleJoin l fields (s.taking dt l q) = (t, body)) :=
    exec_handled (v := .join) hs (.inl rfl) (.inl hx) handled
  refine ⟨fun td mode role enter power read => ?accepted,
    ⟨answers (handleJoin_form rfl), fun t bad => answers (handleJoin_form (oneField_bad _ _ _ bad)),
      fun _ _ _ => answers (handleJoin_form rfl)⟩, fun td d read => ?checks⟩
  case accepted =>
    have admitted := State.entryRefusal_none (s := s.taking dt l q) (l := l) (by simpa using role)
      (State.waits_eq_none_iff.mpr ((s.taking_mayEnter dt l q).mpr enter)) (by rw [State.taking_lane_power, power])
    have handled := handleJoin_accepted (digestForm_read read) (by exact mode) admitted
    rw [State.taking_joinLane] at handled
    exact answers handled
  case checks =>
    have form := digestForm_read read
    have shared (mode : s.mode = .run) := entry_refusals (s := s) (d := d) (q := q) fun why refusal =>
      answers (handleJoin_refused form (by exact mode) refusal)
    refine ⟨fun mode => answers (handleJoin_mode form mode), fun mode => (shared mode).1, fun u mode => (shared mode).2.1 u,
      fun mode => (shared mode).2.2.1, fun mode => (shared mode).2.2.2⟩

/-! ## RESTART -/

section restart
variable {s : State} {l : Lane} {fields : List Text}

theorem handleRestart_count (some_field : fields ≠ []) : handleRestart l fields s = (s, no "FIELD" [asc "COUNT"]) := by
  rw [handleRestart, if_pos some_field]

theorem handleRestart_mode (mode : s.mode = .configure) : handleRestart l [] s = (s, no "MODE" []) := by
  simp [handleRestart, mode]

theorem handleRestart_role (mode : s.mode = .run) (role : s.role l ≠ .inControl) :
    handleRestart l [] s = (s, no "ROLE" [roleText (s.role l)]) := by
  simp [handleRestart, mode, role]

theorem handleRestart_power (mode : s.mode = .safe) (power : (s.lane l).power ≠ .high) :
    handleRestart l [] s = (s, no "POWER" [powerText (s.lane l).power]) := by
  simp [handleRestart, mode, power]

theorem handleRestart_accepted (may : s.mode = .run ∧ s.role l = .inControl ∨ s.mode = .safe ∧ (s.lane l).power = .high) :
    handleRestart l [] s = (s.restartPart l, [asc "OK", asc "RESTARTED"]) := by
  rcases may with ⟨mode, role⟩ | ⟨mode, power⟩
  · simp [handleRestart, mode, role]
  · simp [handleRestart, mode, power]

/-- The state after RESTART: every block at its restart values, the requester holding the session (R140). -/
theorem State.restartPart_eq (s : State) (l : Lane) :
    s.restartPart l = State.append { s with
        mode := .configure, collecting := none, round := 0, summary := none, session := some l
        idle := some (s.expiry s.settings.session)
        lanes := PerLane.ofFn fun m => (s.lane m).restarted
        points := Vector.ofFn fun p => (s.point p).restarted
        banks := Vector.ofFn fun b => (s.bank b).restarted (decide (s.Serves b))
        links := PerLink.ofFn fun k => (s.link k).restarted }
      { code := .restarted, lane := some l, round := some s.round, cause := some (.mode s.mode) } := by
  have uses : s.inUse = fun b => decide (s.Serves b) := by
    funext b
    exact Bool.eq_iff_iff.mpr ((s.inUse_iff b).trans decide_eq_true_iff.symm)
  rw [State.restartPart, uses]
  rfl

/-- A running quiet timer does not outlive a restart. -/
theorem State.taking_lane_restarted (s : State) (dt : Nat) (l m : Lane) (q : Byte) :
    ((s.taking dt l q).lane m).restarted = (s.lane m).restarted := by
  by_cases h : m = l
  · subst h; rw [State.taking_lane_self]; rfl
  · rw [State.taking_lane_ne s dt q h]

end restart

/-- Settles O15: the checks of R139 in their order, and the state of `restartPart_eq`. -/
theorem restartConfigures : Obligations.RestartConfigures := by
  intro s dt l q hs hx
  have answers {fields body : List Text} {t : State} (handled : handleRestart l fields (s.taking dt l q) = (t, body)) :=
    exec_handled (v := .restart) hs.1 (.inr hs.2) (.inl hx) handled
  refine ⟨fun may => ?accepted, fun f fs => answers (handleRestart_count (List.cons_ne_nil f fs)),
    fun mode => answers (handleRestart_mode mode), fun mode role => ?role, fun mode power => ?power⟩
  case accepted =>
    have handled := handleRestart_accepted (s := s.taking dt l q) (l := l)
      (by rw [State.taking_role, State.taking_lane_power]; exact may)
    simp only [State.restartPart_eq, State.taking_lane_restarted] at handled
    simp only [LaneRec.restarted, PointRec.restarted, BankRec.restarted, decide_eq_true_eq] at handled
    exact answers handled
  case role =>
    rw [← State.taking_role s dt l l q] at role ⊢
    exact answers (handleRestart_role mode role)
  case power =>
    rw [← State.taking_lane_power s dt l q] at power ⊢
    exact answers (handleRestart_power mode power)

end Sys2Proof.Machine
end

section
/-! What the lane links answer without changing the part: the four plain reports, the runs of POINTS and BANKS and FAULTS (chapters
Reports and The Fault Log), and the refusals that the Lane Port makes itself (R164, R165). -/

namespace Sys2Proof.Machine

-- One proof after another: elaborated side by side, the proofs of the whole text need more memory than the check gives.
set_option Elab.async false

section reports
variable (s : State) (dt : Nat) (l m : Lane) (q : Byte)

/-! ## What a report reads of the state that takes the line -/

theorem State.taking_control : (s.taking dt l q).control = s.control := by
  simp only [State.control, State.taking_role]

/-- Taking a line of one lane leaves each lane record but for its quiet timer (R58). -/
theorem State.taking_lane_quiet : ∃ x, (s.taking dt l q).lane m = { s.lane m with quiet := x } := by
  cases l <;> cases m <;> exact ⟨_, rfl⟩

theorem orHyphen_eq {α : Type} (spell : α → Text) (x : Option α) :
    orHyphen spell x = match x with | none => asc "-" | some a => spell a := by
  cases x <;> rfl

/-- The spelling of a lane set, letter by letter (R177, R182). -/
theorem laneSetText_eq (x : LaneSet) : laneSetText x = if x = noLanes then asc "-" else
    (if x.a then asc "A" else []) ++ (if x.b then asc "B" else []) ++ (if x.c then asc "C" else []) := by
  obtain ⟨a, b, c⟩ := x
  cases a <;> cases b <;> cases c <;> 
    simp [laneSetText, LaneSet.members, Lane.all, List.filter_cons, PerLane.get, noLanes, laneText, hyphen]

/-- The wait field of LANES (R57, R172). -/
theorem State.waitText_eq : s.waitText m = match (s.lane m).suspendedUntil with
    | some d => if Due s.now d then asc "-" else dec (d - s.now).toNat
    | none => asc "-" := by
  unfold State.waitText
  cases (s.lane m).suspendedUntil with
  | none => rfl
  | some d => simp only [reached_iff]; rfl

/-- The timer field of STATUS (R171). -/
theorem State.timerText_eq : s.timerText = match s.collecting.bind Collecting.timer with
    | some d => dec (d.ms - s.now).toNat
    | none => asc "STOPPED" := by
  unfold State.timerText
  obtain _ | ⟨slots, sealed, _ | timer⟩ := s.collecting <;> rfl

/-! ## Requests refused for their count and those answered -/

variable {s dt l q}

/-- A report with fields is refused for its count (R170). -/
theorem plainReport_fields (f : Text) (fs body : List Text) :
    plainReport (f :: fs) s body = (s, [asc "NO", asc "FIELD", asc "COUNT"]) := if_pos (List.cons_ne_nil f fs)

theorem plainReport_nil (body : List Text) : plainReport [] s body = (s, body) := if_neg (not_not.mpr rfl)

/-- The eleven tokens of a lane as a LANES report reads them when its line is taken (R173). -/
theorem State.taking_laneGroup : (s.taking dt l q).laneGroup m =
    [laneText m, roleText (s.role m), dec (s.lane m).strikes, dec (s.lane m).streak, dec (s.lane m).suspensions,
      (match (s.lane m).suspendedUntil with
        | some d => if Due (s.advance dt).now d then asc "-" else dec (d - (s.advance dt).now).toNat
        | none => asc "-"),
      dec (s.lane m).probClean, dec (s.lane m).probFails, powerText (s.lane m).power,
      (match (s.lane m).lastReturn with | some d => dec d.toNat | none => asc "-"),
      match (s.lane m).holdDeadline with | some d => dec (d.ms - (s.advance dt).now).toNat | none => asc "-"] := by
  obtain ⟨x, lane⟩ := s.taking_lane_quiet dt l m q
  simp only [State.laneGroup, State.waitText_eq, orHyphen_eq, lane, State.taking_now, State.remainingText, interval, State.role]
  cases (s.lane m).suspendedUntil <;> cases (s.lane m).lastReturn <;> cases (s.lane m).holdDeadline <;> rfl

end reports

/-- Settles O49: a plain report answers its body in the state that takes the line, which differs from the state before in the lane's
port, quiet timer and idle timer and in the clock. -/
theorem reportsWhole : Obligations.ReportsWhole := by
  intro s dt l q hs now remaining laneOr letters group refused
  have laneOr_eq (x : Option Lane) : laneOrNone x = laneOr x := by cases x <;> rfl
  have answer (v : Verb) (hq : resynchronises v = true ∨ (s.port l).expected = some q) (hx : servedExcluded v = true)
      (fields body : List Text) (handled : handleVerb v l fields (s.taking dt l q) = (s.taking dt l q, body)) :=
    exec_handled hs hq (.inr hx) handled
  refine ⟨fun f fs => answer .status (.inl rfl) rfl _ _ (plainReport_fields f fs (s.taking dt l q).statusBody), ?status,
    fun expected => ⟨?lanes, ?round, ?digest, ?refusals⟩⟩
  case status =>
    refine answer .status (.inl rfl) rfl [] _ ((plainReport_nil _).trans ?_)
    rw [State.statusBody, State.timerText_eq, State.taking_control, laneOr_eq, laneOr_eq]
    simp only [State.taking_role]
    rfl
  case lanes =>
    refine answer .lanes (.inr expected) rfl [] _ ((plainReport_nil _).trans ?_)
    rw [State.lanesBody, State.taking_laneGroup, State.taking_laneGroup, State.taking_laneGroup] <;> rfl
  case round =>
    refine answer .round (.inr expected) rfl [] _ ((plainReport_nil _).trans ?_)
    rw [State.roundBody, State.taking_summary]
    cases s.summary with
    | none => rfl
    | some x => simp only [laneSetText_eq]; rfl
  case digest => exact answer .digest (.inr expected) rfl [] _ (plainReport_nil _)
  case refusals =>
    intro v hv f fs
    simp only [List.mem_cons, List.not_mem_nil, or_false] at hv
    obtain rfl | rfl | rfl := hv
    · exact answer .lanes (.inr expected) rfl _ _ (plainReport_fields f fs (s.taking dt l q).lanesBody)
    · exact answer .round (.inr expected) rfl _ _ (plainReport_fields f fs (s.taking dt l q).roundBody)
    · exact answer .digest (.inr expected) rfl _ _ (plainReport_fields f fs [asc "OK", asc "DIGEST", digestText s.digest])


/-! ## POINTS and BANKS -/

/-- A run is the numbers of the table from the first one on, as many as asked for (R170). -/
theorem runOf_eq (size first number : Nat) :
    runOf size first number =
      ((List.finRange size).filter fun p => first ≤ p.val && p.val < first + number).map Fin.val := by
  have run : (runOf size first number).Pairwise (· < ·) := List.Pairwise.filter _ List.pairwise_lt_range'
  have table : (((List.finRange size).filter fun p => first ≤ p.val && p.val < first + number).map Fin.val).Pairwise (· < ·) :=
    List.pairwise_map.mpr (List.Pairwise.filter _ (List.pairwise_lt_finRange size))
  refine run.eq_of_mem_iff table fun n => ?_
  simp only [runOf, List.mem_filter, List.mem_range'_1, List.mem_map, List.mem_finRange, true_and, decide_eq_true_eq,
    Bool.and_eq_true]
  constructor
  · rintro ⟨inRun, inTable⟩
    exact ⟨⟨n, inTable⟩, inRun, rfl⟩
  · rintro ⟨p, inRun, rfl⟩
    exact ⟨inRun, p.isLt⟩

/-- The groups of a run, one for each of its numbers. -/
theorem flatMap_runOf {size : Nat} [NeZero size] (first number : Nat) (group : Fin size → List Text) :
    ((runOf size first number).flatMap fun n => group (Fin.ofNat size n)) =
      ((List.finRange size).filter fun p => first ≤ p.val && p.val < first + number).flatMap group := by
  rw [runOf_eq, List.flatMap_map]
  exact List.flatMap_congr fun p _ => congrArg group (Fin.ofNat_val_eq_self p)

theorem length_runOf (size first number : Nat) :
    (runOf size first number).length =
      ((List.finRange size).filter fun p => first ≤ p.val && p.val < first + number).length := by
  rw [runOf_eq, List.length_map]

section runForm
variable {tf tn : Text} {first number : Nat}

theorem runForm_read (hf : readNumber tf = some first) (hn : readNumber tn = some number) :
    runForm [tf, tn] = .ok (first, number) := by simp [runForm, hf, hn]

/-- A run whose first field from the left that is wrong is no number, or whose count is wrong, is refused under this name. -/
theorem runForm_refused : runForm [] = .error (asc "FIRST") ∧
    (∀ tf rest, readNumber tf = none → runForm (tf :: rest) = .error (asc "FIRST")) ∧
    ∀ tf first, readNumber tf = some first →
      runForm [tf] = .error (asc "COUNT") ∧
      (∀ tn rest, readNumber tn = none → runForm (tf :: tn :: rest) = .error (asc "NUMBER")) ∧
      ∀ tn number f rest, readNumber tn = some number → runForm (tf :: tn :: f :: rest) = .error (asc "COUNT") := by
  refine ⟨rfl, fun tf rest bad => ?_, fun tf first hf => ⟨?_, fun tn rest bad => ?_, fun tn number f rest hn => ?_⟩⟩ <;>
    simp [runForm, *]

variable (s : State)

theorem handlePoints_first (hf : readNumber tf = some first) (hn : readNumber tn = some number) (high : 63 < first) :
    handlePoints [tf, tn] s = (s, no "RANGE" [asc "FIRST"]) := by
  simp [handlePoints, runForm_read hf hn, high]

theorem handlePoints_number (hf : readNumber tf = some first) (hn : readNumber tn = some number) (low : first ≤ 63)
    (bad : number = 0 ∨ 8 < number) : handlePoints [tf, tn] s = (s, no "RANGE" [asc "NUMBER"]) := by
  simp [handlePoints, runForm_read hf hn, Nat.not_lt.mpr low, bad]

theorem handlePoints_run (hf : readNumber tf = some first) (hn : readNumber tn = some number) (low : first ≤ 63)
    (least : 1 ≤ number) (most : number ≤ 8) :
    handlePoints [tf, tn] s =
      let points := (List.finRange 64).filter fun p => first ≤ p.val && p.val < first + number
      (s, [asc "OK", asc "POINTS", dec points.length] ++ points.flatMap s.pointGroup) := by
  have good : ¬(number < 1 ∨ 8 < number) := by omega
  simp only [handlePoints, runForm_read hf hn, if_neg (Nat.not_lt.mpr low), if_neg good, flatMap_runOf, length_runOf]

theorem handleBanks_first (hf : readNumber tf = some first) (hn : readNumber tn = some number) (high : 7 < first) :
    handleBanks [tf, tn] s = (s, no "RANGE" [asc "FIRST"]) := by
  simp [handleBanks, runForm_read hf hn, high]

theorem handleBanks_number (hf : readNumber tf = some first) (hn : readNumber tn = some number) (low : first ≤ 7)
    (bad : number = 0 ∨ 4 < number) : handleBanks [tf, tn] s = (s, no "RANGE" [asc "NUMBER"]) := by
  simp [handleBanks, runForm_read hf hn, Nat.not_lt.mpr low, bad]

theorem handleBanks_run (hf : readNumber tf = some first) (hn : readNumber tn = some number) (low : first ≤ 7)
    (least : 1 ≤ number) (most : number ≤ 4) :
    handleBanks [tf, tn] s =
      let banks := (List.finRange 8).filter fun b => first ≤ b.val && b.val < first + number
      (s, [asc "OK", asc "BANKS", dec banks.length] ++ banks.flatMap s.bankGroup) := by
  have good : ¬(number < 1 ∨ 4 < number) := by omega
  simp only [handleBanks, runForm_read hf hn, if_neg (Nat.not_lt.mpr low), if_neg good, flatMap_runOf, length_runOf]

end runForm

/-- The seven tokens of a point (R174, R175). -/
theorem State.pointGroup_eq (s : State) (p : PointNo) : s.pointGroup p =
    [dec p.val, pointStateText (s.point p).state] ++ match (s.point p).defn with
      | none => [asc "-", asc "-", asc "-", asc "-", asc "-"]
      | some d => [kindText d.kind, (match (s.point p).target with | some n => dec n | none => asc "-"),
          (match (s.point p).applied with | some n => dec n | none => asc "-"), dec (s.point p).splits,
          match (s.point p).changed with | some n => dec n | none => asc "-"] := by
  simp only [State.pointGroup, orHyphen_eq]
  cases (s.point p).defn with
  | none => rfl
  | some d => cases (s.point p).target <;> cases (s.point p).applied <;> cases (s.point p).changed <;> rfl

/-- The ten tokens of a bank (R176, R182). -/
theorem State.bankGroup_eq (s : State) (b : BankNo) : s.bankGroup b =
    [dec b.val, bankStateText (s.bank b).state,
      (match (s.bank b).defn, (s.bank b).activeLink with
        | some _, some .one => asc "1"
        | some _, some .two => asc "2"
        | _, _ => asc "-"),
      markText (s.bank b).links.one.mark, dec (s.bank b).links.one.strikes,
      markText (s.bank b).links.two.mark, dec (s.bank b).links.two.strikes,
      dec ((List.finRange 8).countP fun i => (s.bank b).pendingSet[i]),
      if (s.bank b).resync then asc "SET" else asc "CLEAR",
      match (s.bank b).exchange with
        | none => asc "-"
        | some x => (match x.phase with
            | .load => asc "APPLY/LOAD/"
            | .transfer => asc "APPLY/TRANSFER/"
            | .survey => asc "SURVEY/-/") ++ match x.attempt with | .first => asc "1" | .second => asc "2"] := by
  have active : (s.bank b).activeText = match (s.bank b).defn, (s.bank b).activeLink with
      | some _, some .one => asc "1"
      | some _, some .two => asc "2"
      | _, _ => asc "-" := by
    unfold BankRec.activeText
    obtain _ | d := (s.bank b).defn
    · rfl
    · obtain _ | _ | _ := (s.bank b).activeLink <;> rfl
  rw [State.bankGroup, active, BankRec.pendingSlots, ← List.countP_eq_length_filter]
  rfl

/-- Settles O50: a run is the stretch of the table that its fields ask for. -/
theorem reportsRuns : Obligations.ReportsRuns := by
  have answer {s : State} {dt : Nat} {l : Lane} {q : Byte} (hs : s.Expects l q) (v : Verb) (hx : servedExcluded v = true)
      {fields body : List Text} (handled : handleVerb v l fields (s.taking dt l q) = (s.taking dt l q, body)) :=
    exec_handled hs.1 (.inr hs.2) (.inr hx) handled
  refine ⟨?run, ?form⟩
  case run =>
    intro s dt l q tf tn first number hs hf hn points banks value
    refine ⟨fun low least most => ?points, fun high => answer hs .points rfl (handlePoints_first _ hf hn high),
      fun low bad => answer hs .points rfl (handlePoints_number _ hf hn low bad), fun low least most => ?banks,
      fun high => answer hs .banks rfl (handleBanks_first _ hf hn high),
      fun low bad => answer hs .banks rfl (handleBanks_number _ hf hn low bad)⟩
    case points =>
      refine answer hs .points rfl ((handlePoints_run _ hf hn low least most).trans ?_)
      rw [funext (State.pointGroup_eq _)]
      rfl
    case banks =>
      refine answer hs .banks rfl ((handleBanks_run _ hf hn low least most).trans ?_)
      rw [funext (State.bankGroup_eq _)]
      rfl
  case form =>
    intro s dt l q v hv hs refused
    have malformed {fields : List Text} {why : String} (form : runForm fields = .error (asc why)) : refused fields why := by
      obtain rfl | rfl := hv
      · exact answer hs .points rfl (by simp only [handleVerb, handlePoints, form, no])
      · exact answer hs .banks rfl (by simp only [handleVerb, handleBanks, form, no])
    obtain ⟨empty, first, read⟩ := runForm_refused
    refine ⟨malformed empty, fun tf rest bad => malformed (first tf rest bad), fun tf n hf => ?_⟩
    obtain ⟨alone, number, many⟩ := read tf n hf
    exact ⟨malformed alone, fun tn rest bad => malformed (number tn rest bad),
      fun tn m f rest hn => malformed (many tn m f rest hn)⟩

/-! ## FAULTS -/

theorem joinWith_eq (sep : Byte) (ts : List Text) : joinWith sep ts = [sep].intercalate ts := by
  induction ts with
  | nil => rfl
  | cons t ts ih =>
    cases ts with
    | nil => simp [joinWith]
    | cons u us => rw [joinWith, ih, List.intercalate_cons_cons, List.append_assoc, List.singleton_append]; simp

/-- The values token (R182). -/
theorem valuesText_eq (vs : List Nat) :
    valuesText vs = if vs = [] then asc "-" else [44#8].intercalate (vs.map dec) := by
  cases vs with
  | nil => rfl
  | cons v vs => rw [valuesText, joinWith_eq, if_neg (List.cons_ne_nil v vs)]; exact List.cons_ne_nil v vs

/-- The ten tokens of a fault record (R182). -/
theorem recordGroup_eq (r : Record) : recordGroup r =
    [dec r.serial.toNat, dec r.time.toNat, codeText r.event.code, orHyphen laneText r.event.lane,
      orHyphen (fun (b : BankNo) => dec b.val) r.event.bank, orHyphen linkText r.event.link,
      orHyphen (fun (p : PointNo) => dec p.val) r.event.point, orHyphen dec r.event.round, orHyphen causeText r.event.cause,
      if r.event.values = [] then asc "-" else [44#8].intercalate (r.event.values.map dec)] := by
  rw [recordGroup, valuesText_eq]

/-- Settles O42: the records a FAULTS reply holds are the first three of those at or after the cursor. -/
theorem faultsReads : Obligations.FaultsReads := by
  intro s dt l q before ahead hs ok ring cursor
  have ahead_eq : (s.taking dt l q).log.ahead l = ahead := FaultLog.ahead_eq ok.nodup_serials ring cursor
  have answer {fields body : List Text} {t : State} (handled : handleFaults l fields (s.taking dt l q) = (t, body)) :=
    exec_handled (v := .faults) hs.1 (.inr hs.2) (.inr rfl) handled
  refine ⟨fun f fs => answer (if_pos (List.cons_ne_nil f fs)), answer ((if_neg (not_not.mpr rfl)).trans ?_)⟩
  have records : (s.taking dt l q).faultRecords l = ahead.take 3 := congrArg (List.take 3) ahead_eq
  rw [State.faultsBody, records, List.length_take, funext recordGroup_eq]
  rfl

end Sys2Proof.Machine
end

section
/-! The refusals of STAGE and SEAL and the SEAL that leaves the round open (R21 to R26), the answers of the Lane Port itself (R164,
R165), the edges of a power-good input (R69, R70), the waits and sessions that end (R57, R128) and the reset values (R141). -/

namespace Sys2Proof.Machine

-- One proof after another: elaborated side by side, the proofs of the whole text need more memory than the check gives.
set_option Elab.async false

/-! ## STAGE and SEAL refused -/

section form
variable {t : Text} {n : Nat} {good more : List Text} {bad : Text}

/-- A field that is no pair spoils the reading of all pairs. -/
theorem readPairs_bad (unread : readPair bad = none) : readPairs (good ++ bad :: more) = none := by
  induction good with
  | nil => simp [readPairs, unread]
  | cons x xs ih => simp [readPairs, ih]

theorem stageForm_round (rest : List Text) (unread : readNumber t = none) : stageForm (t :: rest) = .error (asc "ROUND") := by
  simp [stageForm, unread]

theorem stageForm_pair (number : readNumber t = some n) (unread : readPair bad = none) :
    stageForm (t :: (good ++ bad :: more)) = .error (asc "PAIR") := by
  simp [stageForm, number, readPairs_bad unread]

theorem stageForm_count {tps : List Text} {ps : List (Nat × Nat)} (number : readNumber t = some n)
    (read : readPairs tps = some ps) (wrong : ps.length = 0 ∨ 12 < ps.length) :
    stageForm (t :: tps) = .error (asc "COUNT") := by
  have bad : ¬(1 ≤ ps.length ∧ ps.length ≤ Config.maxPairs) := by unfold Config.maxPairs; omega
  simp only [stageForm, number, read, if_neg bad]

end form

section checks
variable {s : State} {l : Lane} {n : Nat} {c : Collecting}

theorem State.roundCheck_mode (mode : s.mode ≠ .run) : s.roundCheck l n = .error (no "MODE" []) := by
  unfold State.roundCheck
  split
  next run _ => exact absurd run mode
  next => rfl

theorem State.roundCheck_role (mode : s.mode = .run) (hc : s.collecting = some c) (role : (s.role l).seated = false) :
    s.roundCheck l n = .error (no "ROLE" [roleText (s.role l)]) := by
  simp [State.roundCheck, mode, hc, role]

theorem State.roundCheck_round (mode : s.mode = .run) (hc : s.collecting = some c) (role : (s.role l).seated = true)
    (other : n ≠ s.round) : s.roundCheck l n = .error (no "ROUND" [dec s.round]) := by
  simp [State.roundCheck, mode, hc, role, other]

theorem State.roundCheck_sealed (mode : s.mode = .run) (hc : s.collecting = some c) (role : (s.role l).seated = true)
    (done : c.sealed.get l = true) : s.roundCheck l s.round = .error (no "SEALED" []) := by
  simp [State.roundCheck, mode, hc, role, done]

variable (s) {before after : List (Nat × Nat)} {m v : Nat}

/-- Check 5 finds the first pair with a number above 63. -/
theorem State.pairsNamed_first (low : ∀ x ∈ before, x.1 ≤ 63) (high : 63 < m) :
    s.pairsNamed (before ++ (m, v) :: after) = some (no "RANGE" [dec m]) := by
  induction before with
  | nil => exact if_pos high
  | cons x xs ih =>
    obtain ⟨hx, hxs⟩ := List.forall_mem_cons.mp low
    exact (if_neg (by omega)).trans (ih hxs)

/-- Check 6 finds the first pair whose point is not defined. -/
theorem State.pairsDefined_first (made : ∀ x ∈ before, ∃ p : PointNo, x.1 = p.val ∧ (s.point p).defn.isSome = true) (p : PointNo)
    (unmade : (s.point p).defn = none) :
    s.pairsDefined (before ++ (p.val, v) :: after) = some (no "UNDEFINED" [dec p.val]) := by
  induction before with
  | nil => exact if_neg (by rw [Fin.ofNat_val_eq_self, PointRec.defined, unmade]; exact Bool.false_ne_true)
  | cons x xs ih =>
    obtain ⟨⟨r, number, defn⟩, hxs⟩ := List.forall_mem_cons.mp made
    refine (if_pos ?_).trans (ih hxs)
    rwa [number, Fin.ofNat_val_eq_self]

/-- Check 7 finds the first pair whose value is out of range. -/
theorem State.pairsInRange_first (inRange : ∀ x ∈ before, s.Stageable x) {p : PointNo} {d : PointDef}
    (defn : (s.point p).defn = some d) (out : v < d.min ∨ d.max < v) :
    s.pairsInRange (before ++ (p.val, v) :: after) = some (no "RANGE" [dec p.val]) := by
  induction before with
  | nil =>
    have bad : ¬(d.min ≤ v ∧ v ≤ d.max) := by omega
    simp only [List.nil_append, State.pairsInRange, Fin.ofNat_val_eq_self, defn, if_neg bad]
  | cons x xs ih =>
    obtain ⟨hx, hxs⟩ := List.forall_mem_cons.mp inRange
    obtain ⟨e, hd, range⟩ := hx.defn
    simp only [List.cons_append, State.pairsInRange, hd, if_pos range, ih hxs]

end checks

section requests
variable {s : State} {l : Lane} {fields refusal : List Text} {n : Nat} {ps : List (Nat × Nat)} {c : Collecting}

theorem handleStage_form {name : Text} (form : stageForm fields = .error name) :
    handleStage l fields s = (s, no "FIELD" [name]) := by simp only [handleStage, form]

theorem handleStage_round (form : stageForm fields = .ok (n, ps)) (refused : s.roundCheck l n = .error refusal) :
    handleStage l fields s = (s, refusal) := by simp only [handleStage, form, refused]

theorem handleStage_pairs (form : stageForm fields = .ok (n, ps)) (round : s.roundCheck l n = .ok c)
    (refused : s.pairsRefusal ps = some refusal) : handleStage l fields s = (s, refusal) := by
  simp only [handleStage, form, round, refused]

theorem handleSeal_form {name : Text} (form : sealForm fields = .error name) :
    handleSeal l fields s = (s, no "FIELD" [name]) := by simp only [handleSeal, form]

theorem handleSeal_round (form : sealForm fields = .ok n) (refused : s.roundCheck l n = .error refusal) :
    handleSeal l fields s = (s, refusal) := by simp only [handleSeal, form, refused]

theorem handleSeal_accepted (form : sealForm fields = .ok n) (round : s.roundCheck l n = .ok c) :
    handleSeal l fields s = s.sealRound l c := by simp only [handleSeal, form, round]

end requests

/-- Settles O17: the checks of R22 and R24 are made on the mode, roles, round and points of `s`, which the taking of the line keeps. -/
theorem roundRequestsRefused : Obligations.RoundRequestsRefused := by
  intro s dt l q hs included stage sealing
  have staging {fields body : List Text} (handled : handleStage l fields (s.taking dt l q) = (s.taking dt l q, asc "NO" :: body)) :
      stage fields body := exec_handled (v := .stage) hs.1 (.inr hs.2) (.inl included) handled
  have closing {fields body : List Text} (handled : handleSeal l fields (s.taking dt l q) = (s.taking dt l q, asc "NO" :: body)) :
      sealing fields body := exec_handled (v := .seal) hs.1 (.inr hs.2) (.inl included) handled
  refine ⟨⟨?none, fun t bad => ?bad, fun t u us => ?many⟩, staging (handleStage_form rfl),
    fun t rest bad => staging (handleStage_form (stageForm_round rest bad)),
    fun t n good bad more number _ unread => staging (handleStage_form (stageForm_pair number unread)),
    fun t n tps ps number read wrong => staging (handleStage_form (stageForm_count number read wrong)), ?checks⟩
  case none => exact closing (handleSeal_form (oneField_nil ..))
  case bad => exact closing (handleSeal_form (oneField_bad _ _ _ bad))
  case many => exact closing (handleSeal_form (oneField_many ..))
  case checks =>
    intro n tr tps ps number read some_pair not_many both
    have form := stageForm_eq_ok number read some_pair not_many
    have refused {why : List Text} (check : (s.taking dt l q).roundCheck l n = .error (asc "NO" :: why)) : both why :=
      ⟨staging (handleStage_round form check), closing (handleSeal_round (oneField_read _ _ _ number) check)⟩
    refine ⟨fun mode => refused (State.roundCheck_mode mode), fun c mode hc => ⟨fun role => ?role, fun role other => ?round,
      fun role same done => ?done, fun before m v after role same fresh pairs => ?pairs⟩⟩
    case role => simpa using refused (State.roundCheck_role mode hc (by simpa using role))
    case round => exact refused (State.roundCheck_round mode hc (by simpa using role) other)
    case done => exact refused (same ▸ State.roundCheck_sealed mode hc (by simpa using role) done)
    case pairs =>
      have check : (s.taking dt l q).roundCheck l n = .ok c :=
        same ▸ State.roundCheck_eq_ok mode hc (by simpa using role) fresh
      have refusing {why : List Text} (first : (s.taking dt l q).pairsRefusal ps = some (asc "NO" :: why)) :
          stage (tr :: tps) why := staging (handleStage_pairs form check first)
      have named_all (low : ∀ x ∈ ps, x.1 ≤ 63) : (s.taking dt l q).pairsNamed ps = none :=
        ((s.taking dt l q).pairsNamed_eq_none_iff ps).mpr fun x hx => Nat.lt_succ_of_le (low x hx)
      refine ⟨fun low high => refusing ?_, fun low made unmade => refusing ?_, fun made inRange out => refusing ?_⟩
      · rw [State.pairsRefusal, pairs, (s.taking dt l q).pairsNamed_first low high]; rfl
      · have named := named_all low
        have small : m ≤ 63 := low (m, v) (by simp [pairs])
        have first := (s.taking dt l q).pairsDefined_first (v := v) (after := after) made ⟨m, Nat.lt_succ_of_le small⟩
          (unmade ⟨m, Nat.lt_succ_of_le small⟩ rfl)
        rw [State.pairsRefusal, named, pairs, first]; rfl
      · obtain ⟨p, d, rfl, defn, out⟩ := out
        have named := named_all fun x hx => by obtain ⟨r, hr, -⟩ := made x hx; omega
        have defined : (s.taking dt l q).pairsDefined ps = none :=
          ((s.taking dt l q).pairsDefined_eq_none_iff ps).mpr fun x hx => by
            obtain ⟨r, hr, defn⟩ := made x hx
            rwa [hr, Fin.ofNat_val_eq_self]
        have first := (s.taking dt l q).pairsInRange_first (after := after) inRange defn out
        rw [State.pairsRefusal, named, defined, pairs, first]; rfl

/-! ## SEAL -/

/-- A round in which some voter has not sealed, or in which no lane votes, is not ready (R25). -/
theorem State.ready_eq_false {s : State} {c : Collecting}
    (h : (∃ m, (s.role m).voting = true ∧ c.sealed.get m = false) ∨ ∀ m, (s.role m).voting = false) : s.ready c = false := by
  refine Bool.eq_false_iff.mpr fun ready => ?_
  rw [State.ready, Bool.and_eq_true, List.any_eq_true, List.all_eq_true] at ready
  obtain ⟨⟨n, -, some_sealed⟩, all_sealed⟩ := ready
  obtain ⟨m, votes, unsealed⟩ | nobody := h
  · simpa [votes, unsealed] using all_sealed m (Lane.mem_all m)
  · simp [nobody n] at some_sealed

/-- Settles O18: the round that the lane has sealed is not ready, because another voter has not sealed or no lane votes. -/
theorem sealJoins : Obligations.SealJoins := by
  intro s dt l q c tr hs mode hc seated fresh number still_open
  have check : (s.taking dt l q).roundCheck l s.round = .ok c :=
    State.roundCheck_eq_ok mode hc (by simpa using seated) fresh
  have unready (t : State) (roles : ∀ m, t.role m = s.role m) (x : Moment) : t.ready (c.seal l x) = false := by
    refine State.ready_eq_false (still_open.imp ?_ fun nobody m => by rw [roles]; exact nobody m)
    rintro ⟨m, other, votes, unsealed⟩
    exact ⟨m, by rw [roles]; exact votes, by rw [Collecting.seal, PerLane.get_set_ne _ _ _ _ other]; exact unsealed⟩
  refine exec_handled (v := .seal) hs.1 (.inr hs.2) (.inl (Role.ne_excluded_of_seated seated))
    ((handleSeal_accepted (oneField_read _ _ _ number) check).trans ?_)
  have open_round := unready { s.taking dt l q with
    collecting := some (c.seal l ((s.taking dt l q).expiry (s.taking dt l q).settings.roundtime)) } (s.taking_role dt l · q)
  rw [State.sealRound, open_round]
  rfl

/-! ## What the Lane Port answers itself -/

/-- The verbs an EXCLUDED lane is served are the eight of the list (R165). -/
theorem servedExcluded_eq_false {v : Verb} (h : v ∉ [Verb.status, .lanes, .points, .banks, .round, .digest, .faults, .ack]) :
    servedExcluded v = false := by
  cases v <;> first | rfl | simp at h

/-- Settles O45: a known verb is answered NO EXCLUDED before its owner sees it, and no verb is read from an unknown one. -/
theorem portAnswers : Obligations.PortAnswers := by
  refine ⟨fun s dt l q c v fields hs request goesOn excluded unserved => ?excluded, fun s dt l q verb fields hs unknown => ?unknown⟩
  case excluded =>
    rw [exec_of_isRequest request, requestArrives_known dt l q v fields s hs goesOn.symm]
    rw [if_pos ⟨excluded, servedExcluded_eq_false unserved⟩]
    rfl
  case unknown =>
    refine requestArrives_unknown dt l q verb fields s hs ?_
    exact List.find?_eq_none.mpr fun v _ => by simpa using unknown v

/-! ## Events that are not lines -/

section events
variable {s : State} (dt : Nat) (l : Lane) (b : BankNo) (k : LinkNo) (awake : s.inReset = false)
include awake

theorem exec_pgFall :
    exec (.pgFall dt l) s = .next ((s.advance dt).powerFalls l) :=
  happens_next dt s (·.powerFalls l) awake

theorem exec_pgRise :
    exec (.pgRise dt l) s = .next ((s.advance dt).powerRises l) :=
  happens_next dt s (·.powerRises l) awake

theorem exec_roundTimerExpiry :
    exec (.roundTimerExpiry dt) s = .next (s.advance dt).roundTimeout :=
  happens_next dt s (·.roundTimeout) awake

theorem exec_quietTimerExpiry :
    exec (.quietTimerExpiry dt l) s = .next ((s.advance dt).quietExpires l) :=
  happens_next dt s (·.quietExpires l) awake

theorem exec_confirmTimerExpiry :
    exec (.confirmTimerExpiry dt l) s = .next ((s.advance dt).lossConfirmed l) :=
  happens_next dt s (·.lossConfirmed l) awake

theorem exec_holdExpiry :
    exec (.holdExpiry dt l) s = .next ((s.advance dt).holdExpires l) :=
  happens_next dt s (·.holdExpires l) awake

theorem exec_suspendedUntilReached :
    exec (.suspendedUntilReached dt l) s = .next ((s.advance dt).suspensionPasses l) :=
  happens_next dt s (·.suspensionPasses l) awake

theorem exec_sessionIdleExpiry :
    exec (.sessionIdleExpiry dt) s = .next (s.advance dt).sessionExpires :=
  happens_next dt s (·.sessionExpires) awake

theorem exec_warmingSettleDeadline :
    exec (.warmingSettleDeadline dt b) s = .next ((s.advance dt).settleReached b .warming) :=
  happens_next dt s (·.settleReached b .warming) awake

theorem exec_switchingSettleDeadline :
    exec (.switchingSettleDeadline dt b) s = .next ((s.advance dt).settleReached b .switching) :=
  happens_next dt s (·.settleReached b .switching) awake

theorem exec_surveyDue :
    exec (.surveyDue dt b) s = .next ((s.advance dt).surveyFallsDue b) :=
  happens_next dt s (·.surveyFallsDue b) awake

theorem exec_driverFrameSent :
    exec (.driverFrameSent dt k) s = .next ((s.advance dt).frameSent k) :=
  happens_next dt s (·.frameSent k) awake

theorem exec_replyTimerExpiry (arriving : Bool) :
    exec (.replyTimerExpiry dt k arriving) s = .next ((s.advance dt).replyTimeout k arriving) :=
  happens_next dt s (·.replyTimeout k arriving) awake

theorem exec_driverFrameReceived (bytes : List RxByte) :
    exec (.driverFrameReceived dt k bytes) s = .next ((s.advance dt).frameReceived k bytes) :=
  happens_next dt s (·.frameReceived k bytes) awake

theorem exec_lineEnd (chars : List RxByte) :
    exec (.lineEnd dt l chars) s = .next ((s.advance dt).lineEnds l chars) :=
  happens_next dt s (·.lineEnds l chars) awake

theorem exec_lineOverLength :
    exec (.lineOverLength dt l) s = .next ((s.advance dt).lineTooLong l) :=
  happens_next dt s (·.lineTooLong l) awake

theorem exec_replyEnd :
    exec (.replyEnd dt l) s = .next ((s.advance dt).replyEnds l) :=
  happens_next dt s (·.replyEnds l) awake

end events

/-! ## Power edges, waits and sessions -/

/-- Settles O31: each edge meets the one state of the power line that it changes. -/
theorem powerEdges : Obligations.PowerEdges := by
  intro s dt l awake
  refine ⟨fun high => ?fall, fun confirming => ?glitch, fun low => ?back⟩
  case fall =>
    rw [exec_pgFall dt l awake]
    exact congrArg _ (if_pos high)
  case glitch =>
    rw [exec_pgRise dt l awake]
    simp only [State.powerRises, State.advance_lane, confirming]
    rfl
  case back =>
    rw [exec_pgRise dt l awake]
    simp only [State.powerRises, State.advance_lane, low]
    rfl

/-- Where no session is held or its timer is stopped, the idle expiry changes nothing. -/
theorem State.sessionExpires_unset {s : State} (unset : s.session = none ∨ s.idle = none) : s.sessionExpires = s := by
  unfold State.sessionExpires
  split
  next some_holder some_idle =>
    obtain no_holder | no_idle := unset
    · cases no_holder.symm.trans some_holder
    · cases no_idle.symm.trans some_idle
  next => rfl

/-- Settles O33: an absent wait or timer, and one whose instant is not reached, leave the part as device time finds it. -/
theorem waitsAndSessionsEnd : Obligations.WaitsAndSessionsEnd := by
  refine ⟨fun s dt l d awake wait => ?wait, fun s dt awake => ⟨fun l none_set => ?noWait, fun unset => ?noSession⟩,
    fun s dt l d awake holder idle => ?idle⟩
  case wait =>
    rw [exec_suspendedUntilReached dt l awake]
    simp only [State.suspensionPasses, State.advance_lane, wait, reached_iff]
    rfl
  case noWait =>
    rw [exec_suspendedUntilReached dt l awake]
    simp only [State.suspensionPasses, State.advance_lane, none_set]
  case noSession => rw [exec_sessionIdleExpiry dt awake, State.sessionExpires_unset (by exact unset)]
  case idle =>
    have holds : (s.advance dt).session = some l := holder
    have runs : (s.advance dt).idle = some d := idle
    rw [exec_sessionIdleExpiry dt awake]
    simp only [State.sessionExpires, holds, runs, Moment.reached_iff]
    rfl

/-! ## Reset -/

/-- Settles O51: a reset and its end write whole states, which hold the values named; outside the commands of a reset nothing happens
while it lasts. -/
theorem resetValues : Obligations.ResetValues := by
  refine ⟨fun s => ⟨rfl, s.heldInReset, rfl, rfl, rfl, rfl, rfl, rfl, fun l => ?lines, fun b => ?enables, fun k => ?links⟩,
    fun s c reset timed => ?held, fun s pg reset => ?ended⟩
  case lines => cases l <;> exact ⟨rfl, rfl, rfl⟩
  case enables => exact congrArg BankRec.enable (Vector.getElem_replicate ..)
  case links => cases k <;> rfl
  case held =>
    obtain ⟨dt, hdt⟩ := Option.ne_none_iff_exists'.mp timed
    obtain ⟨t, next, ⟨-, rfl⟩ | ⟨awake, -⟩⟩ := exec_does c s hdt
    · exact next
    · cases reset.symm.trans awake
  case ended =>
    have digest := afterReset_digestOk (PerLane.ofFn fun l => sampledPower (pg.get l))
    refine ⟨s.endReset pg, congrArg _ (if_pos reset), rfl, rfl, rfl, rfl, rfl, rfl, rfl, rfl, rfl, rfl, rfl, rfl, digest,
      fun l => ?_, fun l => ?_, fun p => ?_, fun b => ?_, fun k => ?_⟩
    · cases l <;> rfl
    · cases l <;> rfl
    · exact Vector.getElem_replicate ..
    · exact Vector.getElem_replicate ..
    · cases k <;> rfl

end Sys2Proof.Machine
end

section
/-! The rotation of the link controllers (R95): which bank is a candidate, which one a link chooses and when it holds its choice back,
and that the choices of both links together are what `Served` says. -/

namespace Sys2Proof.Machine

-- One proof after another: elaborated side by side, the proofs of the whole text need more memory than the check gives.
set_option Elab.async false

/-! ## What starting an exchange leaves -/

theorem entryFor_isSome {es : List Entry} {i : SlotNo} : (entryFor es i).isSome = true ↔ ∃ y ∈ es, y.slot = i := by
  simp [entryFor]

/-- A bank starts an APPLY exactly where slots are pending or resync is set (R95). -/
theorem BankRec.applies_iff (r : BankRec) : (!r.pendingSlots.isEmpty || r.resync) = true ↔ r.Applies := by
  have slots : (!r.pendingSlots.isEmpty) = true ↔ ∃ i : SlotNo, r.pendingSet[i] = true := by simp [BankRec.pendingSlots]
  rw [Bool.or_eq_true, slots, BankRec.Applies]

theorem noSlots_eq (r : Vector Bool 8) (h : ∀ i : SlotNo, r[i] = false) : r = Vector.replicate 8 false :=
  Vector.ext fun i hi => (h ⟨i, hi⟩).trans (Vector.getElem_replicate hi).symm

theorem BankRec.pendingSet_of_not_applies {r : BankRec} (h : ¬ r.Applies) : r.pendingSet = Vector.replicate 8 false :=
  noSlots_eq _ fun i => Bool.eq_false_iff.mpr fun hi => h (.inl ⟨i, hi⟩)

theorem BankRec.resync_of_not_applies {r : BankRec} (h : ¬ r.Applies) : r.resync = false :=
  Bool.eq_false_iff.mpr fun hr => h (.inr hr)

/-- The entries an APPLY loads, slot by slot (R96). -/
theorem State.entriesToLoad_eq (s : State) (b : BankNo) : s.entriesToLoad b =
    (List.finRange 8).filterMap fun i =>
      if (s.point (pointAt b i)).defn.isSome ∧ ((s.bank b).resync = true ∨ (s.bank b).pendingSet[i] = true)
      then (s.point (pointAt b i)).target.map (Entry.mk i) else none := by
  rw [State.entriesToLoad, State.slotsToLoad, List.filterMap_filter]
  refine List.filterMap_congr fun i _ => ?_
  simp only [PointRec.defined, Bool.and_eq_true, Bool.or_eq_true]

@[simp] theorem State.setLink_entriesToLoad (s : State) (k : LinkNo) (r : LinkCtl) (b : BankNo) :
    (s.setLink k r).entriesToLoad b = s.entriesToLoad b := rfl

/-- What the Apply Engine can change without a record: points, banks and link controllers. -/
def BanksPart (s t : State) : Prop := t = { s with points := t.points, banks := t.banks, links := t.links }

theorem BanksPart.refl (s : State) : BanksPart s s := rfl

theorem BanksPart.trans {s t u : State} (h : BanksPart s t) (g : BanksPart t u) : BanksPart s u := by
  unfold BanksPart at h g ⊢
  rw [g, h]

theorem BanksPart.setBank (s : State) (b : BankNo) (r : BankRec) : BanksPart s (s.setBank b r) := rfl
theorem BanksPart.setLink (s : State) (k : LinkNo) (r : LinkCtl) : BanksPart s (s.setLink k r) := rfl
theorem BanksPart.updatePoints (s : State) (f : PointNo → PointRec → Bool → PointRec × Bool) :
    BanksPart s (s.updatePoints f) := by
  unfold BanksPart State.updatePoints
  rfl

theorem BanksPart.sendStep (s : State) (k : LinkNo) (b : BankNo) (x : Exchange) : BanksPart s (s.sendStep k b x) :=
  (BanksPart.setBank ..).trans (.setLink ..)

/-- Link `k` starts the exchange `e` of bank `b`, which takes `s` to `t` and changes nothing else. -/
structure Starts (k : LinkNo) (b : BankNo) (e : Exchange) (s t : State) : Prop where
  opens : s.Opens k b e
  bank : ∀ c, t.bank c = if c = b then { s.bank b with
    tag := e.tag, pendingSet := Vector.replicate 8 false, resync := false, exchange := some e } else s.bank c
  link : ∀ j, t.link j = if j = k then { s.link k with
    pointer := b, settledAt := none, transaction := some {
      bank := b, wait := .sending, frame := stepFrame (((s.bank b).defn.map BankDef.address).getD 0) e } } else s.link j
  point : ∀ p, t.point p = if bankOf p = b ∧ ∃ y ∈ e.loaded, y.slot = slotOf p
    then { s.point p with state := .loading } else s.point p
  rest : BanksPart s t

/-- The frame the controller sends is that of the exchange's step. -/
theorem exchangeFrame_eq (address : Nat) (x : Exchange) : exchangeFrame address x = stepFrame address x := by
  obtain ⟨phase, tag, loaded, attempt, link⟩ := x
  cases phase <;> rfl

section starts
variable (s : State) (k : LinkNo) (b : BankNo)

theorem State.startSurvey_starts (idle : ¬ (s.bank b).Applies) : ∃ e, Starts k b e s (s.startExchange k b) := by
  have survey : (!(s.bank b).pendingSlots.isEmpty || (s.bank b).resync) = false :=
    Bool.eq_false_iff.mpr fun h => idle ((s.bank b).applies_iff.mp h)
  have started : s.startExchange k b =
      (s.setLink k { s.link k with pointer := b, settledAt := none }).startSurvey k b := by
    simp only [State.startExchange, State.setLink_bank, survey, Bool.false_eq_true, if_false]
  refine ⟨{ phase := .survey, tag := (s.bank b).tag, loaded := [], attempt := .first, link := k }, ?_⟩
  refine ⟨⟨rfl, rfl, fun h => absurd h idle, fun _ => ⟨rfl, rfl, rfl⟩⟩, fun c => ?_, fun j => ?_, fun p => ?_, ?_⟩
  · simp only [started, State.startSurvey, State.sendStep, State.setLink_bank, State.setBank_bank]
    rw [← BankRec.pendingSet_of_not_applies idle, ← BankRec.resync_of_not_applies idle]
  · simp only [started, State.startSurvey, State.sendStep, State.setLink_bank, State.setBank_bank_self, State.setLink_link,
      exchangeFrame_eq, State.setBank_link, if_true, BankRec.address]
    split <;> rfl
  · simp [started, State.startSurvey, State.sendStep]
  · rw [started]
    exact .trans (.setLink ..) (.sendStep ..)

theorem State.startApply_starts (work : (s.bank b).Applies) : ∃ e, Starts k b e s (s.startExchange k b) := by
  have apply : (!(s.bank b).pendingSlots.isEmpty || (s.bank b).resync) = true := (s.bank b).applies_iff.mpr work
  have started : s.startExchange k b =
      (s.setLink k { s.link k with pointer := b, settledAt := none }).startApply k b := by
    simp only [State.startExchange, State.setLink_bank, apply, if_true]
  refine ⟨{ phase := .load, tag := (s.bank b).tag + 1#8, loaded := s.entriesToLoad b, attempt := .first, link := k }, ?_⟩
  refine ⟨⟨rfl, rfl, fun _ => ⟨rfl, rfl, s.entriesToLoad_eq b⟩, fun h => absurd work h⟩, fun c => ?_, fun j => ?_,
    fun p => ?_, ?_⟩
  · rw [started]
    simp only [State.startApply, State.sendStep, State.setLink_bank, State.setBank_bank, State.updatePoints_bank]
    by_cases same : c = b
    · subst same
      have emptied : (Vector.ofFn fun _ : Fin 8 => false) = Vector.replicate 8 false :=
        noSlots_eq _ fun i => Vector.getElem_ofFn i.isLt
      simp [emptied]
    · simp [same]
  · simp only [started, State.startApply, State.sendStep, State.setLink_bank, State.setBank_bank_self, State.setLink_link,
      exchangeFrame_eq, State.setBank_link, State.updatePoints_link, State.updatePoints_bank, if_true, BankRec.address]
    split <;> rfl
  · rw [started]
    simp only [State.startApply, State.sendStep, State.setLink_point, State.setBank_point, State.updatePoints_point,
      State.setLink_entriesToLoad, entryFor_isSome]
    by_cases within : bankOf p = b <;> simp only [within, if_true, if_false, true_and, false_and]
  · rw [started]
    exact .trans (.setLink ..) (.trans (.updatePoints ..) (.trans (.setBank ..) (.sendStep ..)))

end starts

/-- An exchange is always an APPLY or a SURVEY. -/
theorem State.startExchange_starts (s : State) (k : LinkNo) (b : BankNo) : ∃ e, Starts k b e s (s.startExchange k b) := by
  by_cases work : (s.bank b).Applies
  · exact s.startApply_starts k b work
  · exact s.startSurvey_starts k b work

theorem Starts.started {k : LinkNo} {b : BankNo} {e : Exchange} {s t : State} (h : Starts k b e s t) : s.Started k b t := by
  refine ⟨e, h.opens, ?_, ?_, fun i => ?_⟩
  · rw [h.bank, if_pos rfl]
  · rw [h.link, if_pos rfl]
  · simp only [h.point, bankOf_pointAt, slotOf_pointAt, true_and]

/-! ## What a link sees -/

section candidate
variable {s t : State} {k : LinkNo} {b : BankNo}

/-- A candidate is ACTIVE on this link, has no exchange in flight and has work (R95). -/
theorem State.candidate_iff : s.candidate k b = true ↔ (s.bank b).state = .active ∧ (s.bank b).activeLink = some k ∧
    (s.bank b).exchange = none ∧ (s.bank b).hasWork s.clock = true := by
  simp [State.candidate, and_assoc]

theorem State.candidate_of_choice (h : s.choice k = some b) : s.candidate k b = true := List.find?_some h

theorem State.Chooses.candidate (h : s.Chooses k b) : s.candidate k b = true := by
  obtain ⟨-, -, choice⟩ := h
  exact State.candidate_of_choice choice

theorem State.Chooses.activeLink (h : s.Chooses k b) : (s.bank b).activeLink = some k :=
  (State.candidate_iff.mp h.candidate).2.1

/-- A link chooses one bank at most, and a bank is chosen by one link at most. -/
theorem State.Chooses.bank_unique {c : BankNo} (h : s.Chooses k b) (g : s.Chooses k c) : b = c := by
  obtain ⟨-, -, hb⟩ := h
  obtain ⟨-, -, hc⟩ := g
  exact Option.some.inj (hb.symm.trans hc)

theorem State.Chooses.link_unique {j : LinkNo} (h : s.Chooses k b) (g : s.Chooses j b) : k = j :=
  Option.some.inj (h.activeLink.symm.trans g.activeLink)

/-- Link `k` sees the same in both states: the clock, its own controller and the banks of which it is the active link. -/
structure SeesAlike (k : LinkNo) (s t : State) : Prop where
  clock : t.clock = s.clock
  link : t.link k = s.link k
  banks : ∀ b, t.bank b = s.bank b ∨ (s.bank b).activeLink ≠ some k ∧ (t.bank b).activeLink ≠ some k

theorem SeesAlike.candidate (h : SeesAlike k s t) (b : BankNo) : t.candidate k b = s.candidate k b := by
  obtain same | ⟨hs, ht⟩ := h.banks b
  · simp only [State.candidate, same, h.clock]
  · simp [State.candidate, hs, ht]

theorem SeesAlike.choice (h : SeesAlike k s t) : t.choice k = s.choice k := by
  rw [State.choice, State.choice, h.link, funext h.candidate]

theorem SeesAlike.sharesDeadline (h : SeesAlike k s t) (b : BankNo) (d : Time) :
    t.sharesDeadline k b d = s.sharesDeadline k b d := by
  have each (e : BankNo) : (decide ((t.bank e).activeLink = some k) && decide ((t.bank e).deadlineAt = some d)) =
      (decide ((s.bank e).activeLink = some k) && decide ((s.bank e).deadlineAt = some d)) := by
    obtain same | ⟨hs, ht⟩ := h.banks e
    · rw [same]
    · simp [hs, ht]
  simp only [State.sharesDeadline, h.link, Bool.and_assoc, each]

theorem SeesAlike.heldBack (h : SeesAlike k s t) : t.heldBack k = s.heldBack k := by
  unfold State.heldBack
  refine congrArg (List.any _) (funext fun b => ?_)
  obtain same | ⟨hs, ht⟩ := h.banks b
  · have still (d : Time) : t.stillToCome b d = s.stillToCome b d := by
      rw [State.stillToCome, State.stillToCome, State.now, State.now, same, h.clock]
    simp only [same, still, h.sharesDeadline]
  · simp [hs, ht]

theorem SeesAlike.chooses_iff (h : SeesAlike k s t) : t.Chooses k b ↔ s.Chooses k b := by
  simp only [State.Chooses, h.link, h.heldBack, h.choice]

end candidate

/-! ## The choices of the links -/

section served
variable {s t u x y : State} {k : LinkNo} {b : BankNo}

/-- A start is told by the bank, the link and the bank's points alone. -/
theorem State.Started.congr (h : x.Started k b t) (bank : y.bank b = x.bank b) (link : y.link k = x.link k)
    (point : ∀ i, y.point (pointAt b i) = x.point (pointAt b i)) (bank' : u.bank b = t.bank b) (link' : u.link k = t.link k)
    (point' : ∀ i, u.point (pointAt b i) = t.point (pointAt b i)) : y.Started k b u := by
  obtain ⟨e, opens, hb, hk, hp⟩ := h
  refine ⟨e, ?_, by rw [bank', bank, hb], by rw [link', link, bank, hk], fun i => by rw [point', point, hp]⟩
  simpa only [State.Opens, bank, point] using opens

/-- The choice of one link (R95). -/
theorem Served.serveLink (s : State) (k : LinkNo) : Served [k] s (s.serveLink k) := by
  by_cases chosen : ∃ b, s.Chooses k b
  · obtain ⟨b, h⟩ := chosen
    obtain ⟨idle, free, choice⟩ := id h
    obtain ⟨e, starts⟩ := s.startExchange_starts k b
    rw [s.serveLink_chosen k b idle free choice]
    refine ⟨fun j hj c hc => ?_, fun j hj => ?_, fun c hc => ?_, fun p hp => ?_, starts.rest⟩
    · obtain rfl := List.mem_singleton.mp hj
      obtain rfl := h.bank_unique hc
      exact starts.started
    · rw [starts.link, if_neg]
      rintro rfl
      exact hj (List.mem_singleton_self j) b h
    · rw [starts.bank, if_neg]
      rintro rfl
      exact hc k (List.mem_singleton_self k) h
    · rw [starts.point, if_neg]
      rintro ⟨rfl, -⟩
      exact hp k (List.mem_singleton_self k) h
  · have same : s.serveLink k = s := by
      obtain same | ⟨b, idle, free, choice, -⟩ := s.serveLink_cases k
      · exact same
      · exact absurd ⟨b, idle, free, choice⟩ chosen
    rw [same]
    refine ⟨fun j hj c hc => ?_, fun _ _ => rfl, fun _ _ => rfl, fun _ _ => rfl, rfl⟩
    obtain rfl := List.mem_singleton.mp hj
    exact absurd ⟨c, hc⟩ chosen

/-- A link that has made its choice has changed nothing that the other link sees. -/
theorem Served.seesAlike (h : Served [k] s t) : SeesAlike k.other s t := by
  have other : k.other ∉ [k] := by simp
  refine ⟨by rw [h.rest], h.links _ fun mem => absurd mem other, fun b => ?_⟩
  by_cases chosen : s.Chooses k b
  · right
    obtain ⟨e, -, bank, -⟩ := h.started k (List.mem_singleton_self k) b chosen
    have active := chosen.activeLink
    rw [bank, active]
    cases k <;> decide
  · exact .inl (h.banks b (by simpa using chosen))

/-- The choices of the two links are independent of each other (R95). -/
theorem Served.both (h : Served [k] s t) (g : Served [k.other] t u) : Served [k, k.other] s u := by
  have alike := h.seesAlike
  have unmoved {b : BankNo} (first : s.Chooses k b) : ¬ t.Chooses k.other b := fun second =>
    absurd (first.link_unique (alike.chooses_iff.mp second)).symm k.other_ne
  have unmoved' {b : BankNo} (second : s.Chooses k.other b) : ¬ s.Chooses k b := fun first =>
    absurd (first.link_unique second).symm k.other_ne
  have kept_bank {b : BankNo} (not : ¬ s.Chooses k b) : t.bank b = s.bank b := h.banks b (by simpa using not)
  have kept_point {p : PointNo} (not : ¬ s.Chooses k (bankOf p)) : t.point p = s.point p := h.points p (by simpa using not)
  have kept_bank' {b : BankNo} (not : ¬ t.Chooses k.other b) : u.bank b = t.bank b := g.banks b (by simpa using not)
  have kept_point' {p : PointNo} (not : ¬ t.Chooses k.other (bankOf p)) : u.point p = t.point p :=
    g.points p (by simpa using not)
  have own : u.link k = t.link k := g.links k fun mem => absurd (List.mem_singleton.mp mem).symm k.other_ne
  refine ⟨fun j hj b chosen => ?_, fun j hj => ?_, fun b hb => ?_, fun p hp => ?_, BanksPart.trans h.rest g.rest⟩
  · obtain rfl | rfl : j = k ∨ j = k.other := by simpa using hj
    · exact (h.started j (List.mem_singleton_self j) b chosen).congr rfl rfl (fun _ => rfl)
        (kept_bank' (unmoved chosen)) own fun i => kept_point' (by simpa using unmoved chosen)
    · have started := g.started k.other (List.mem_singleton_self _) b (alike.chooses_iff.mpr chosen)
      exact started.congr (kept_bank (unmoved' chosen)).symm alike.link.symm
        (fun i => (kept_point (by simpa using unmoved' chosen)).symm) rfl rfl fun _ => rfl
  · by_cases first : j = k
    · subst first
      rw [own]
      exact h.links j fun _ => hj List.mem_cons_self
    · have second : j = k.other := by cases j <;> cases k <;> first | rfl | exact absurd rfl first
      subst second
      rw [g.links k.other fun _ b hb => hj (by simp) b (alike.chooses_iff.mp hb), alike.link]
  · have first := hb k List.mem_cons_self
    have second := hb k.other (by simp)
    rw [kept_bank' fun hc => second (alike.chooses_iff.mp hc), kept_bank first]
  · have first := hp k List.mem_cons_self
    have second := hp k.other (by simp)
    rw [kept_point' fun hc => second (alike.chooses_iff.mp hc), kept_point first]

/-- The choices of both links (R95). -/
theorem Served.serveLinks (s : State) : Served bothLinks s s.serveLinks :=
  (Served.serveLink s .one).both (Served.serveLink _ .two)

end served

/-! ## The rotation -/

theorem find?_finRange_iff {n : Nat} {f : Fin n → Bool} {i : Fin n} :
    (List.finRange n).find? f = some i ↔ f i = true ∧ ∀ j, j < i → f j = false := by
  refine ⟨fun h => ⟨List.find?_some h, fun j hj => ?_⟩, fun h => find?_finRange_eq_some h.1 h.2⟩
  obtain ⟨-, m, hm, at_m, before⟩ := List.find?_eq_some_iff_getElem.mp h
  obtain rfl : m = i.val := by simpa [Fin.ext_iff] using at_m
  simpa using before j.val hj

section rotation
variable (pointer b e : BankNo)

/-- How many banks a controller with this pointer looks at before bank `b`. -/
def turnOf : BankNo := b - pointer - 1

theorem turnOf_val : (turnOf pointer b).val = (b.val + 7 - pointer.val) % 8 := by
  unfold turnOf
  have := b.isLt
  have := pointer.isLt
  simp only [Fin.sub_def]
  omega

theorem turnOf_rotation (i : Fin 8) : turnOf pointer (pointer + 1 + i) = i := by
  decide +revert

theorem rotation_turnOf : pointer + 1 + turnOf pointer b = b := by
  decide +revert

/-- A controller finds the bank of the earliest turn (R95). -/
theorem find?_rotation_iff (f : BankNo → Bool) :
    (rotation pointer).find? f = some b ↔ f b = true ∧ ∀ e, f e = true → turnOf pointer b ≤ turnOf pointer e := by
  have image (x : Option BankNo) : x.map (fun i => pointer + 1 + i) = some b ↔ x = some (turnOf pointer b) := by
    cases x with
    | none => simp
    | some i =>
      rw [Option.map_some, Option.some.injEq, Option.some.injEq]
      exact ⟨fun h => by rw [← h, turnOf_rotation], fun h => by rw [h, rotation_turnOf]⟩
  rw [rotation, List.find?_map, image, find?_finRange_iff]
  simp only [Function.comp_apply, rotation_turnOf]
  refine and_congr_right fun _ => ⟨fun first e he => ?_, fun least j hj => ?_⟩
  · by_contra later
    have earlier := first (turnOf pointer e) (not_le.mp later)
    rw [rotation_turnOf, he] at earlier
    cases earlier
  · refine Bool.eq_false_iff.mpr fun hf => ?_
    have le := least _ hf
    rw [turnOf_rotation] at le
    exact absurd hj (not_lt.mpr le)

theorem mem_rotation : b ∈ rotation pointer :=
  List.mem_map.mpr ⟨turnOf pointer b, List.mem_finRange _, rotation_turnOf pointer b⟩

end rotation

section heldBack
variable (s : State) (k : LinkNo)

/-- Bank `b` is in a settle period on link `k` that ends at device time `d`. -/
def State.SettlesAt (b : BankNo) (d : Time) : Prop :=
  ((s.bank b).state = .warming ∨ (s.bank b).state = .switching) ∧ (s.bank b).activeLink = some k ∧
    (s.bank b).settle.map Moment.ms = some d

theorem State.deadlineAt_iff (b : BankNo) (d : Time) :
    (s.bank b).activeLink = some k ∧ (s.bank b).deadlineAt = some d ↔ s.SettlesAt k b d ∨ s.SurveysAt k b d := by
  unfold BankRec.deadlineAt State.SettlesAt State.SurveysAt
  cases (s.bank b).state <;> simp

/-- A deadline still to come is a settle deadline whose device time has come, or a survey due time later in this millisecond (log
entry 7). -/
theorem State.stillToCome_iff (b : BankNo) (d : Time) :
    ((s.bank b).activeLink = some k ∧ (s.bank b).deadlineAt = some d) ∧ s.stillToCome b d = true ↔
      s.SettlesAt k b d ∧ Due s.now d ∨ s.SurveysAt k b d ∧ d = s.now ∧ ¬ (s.bank b).hasWork s.clock = true := by
  unfold BankRec.deadlineAt State.stillToCome State.SettlesAt State.SurveysAt
  cases (s.bank b).state <;> simp [reached_iff]

theorem State.sharesDeadline_iff (b : BankNo) (d : Time) : s.sharesDeadline k b d = true ↔
    (s.link k).settledAt = some d ∨ ∃ e, e ≠ b ∧ (s.SettlesAt k e d ∨ s.SurveysAt k e d) := by
  simp [State.sharesDeadline, ← State.deadlineAt_iff, and_assoc]

/-- When a link holds its choice back (log entry 7). -/
theorem State.heldBack_iff : s.heldBack k = true ↔ ∃ b d,
    (s.SettlesAt k b d ∧ Due s.now d ∨ s.SurveysAt k b d ∧ d = s.now ∧ ¬ (s.bank b).hasWork s.clock = true) ∧
      ((s.link k).settledAt = some d ∨ ∃ e, e ≠ b ∧ (s.SettlesAt k e d ∨ s.SurveysAt k e d)) := by
  have each (b : BankNo) : ((s.bank b).activeLink = some k ∧ (match (s.bank b).deadlineAt with
        | some d => s.stillToCome b d && s.sharesDeadline k b d
        | none => false) = true) ↔ ∃ d, (((s.bank b).activeLink = some k ∧ (s.bank b).deadlineAt = some d) ∧
          s.stillToCome b d = true) ∧ s.sharesDeadline k b d = true := by
    cases (s.bank b).deadlineAt <;> simp [and_assoc]
  simp only [State.heldBack, List.any_eq_true, List.mem_finRange, true_and, Bool.and_eq_true, decide_eq_true_eq, ← State.stillToCome_iff,
    ← State.sharesDeadline_iff]
  exact exists_congr each

end heldBack

/-- Settles O35: the rotation is a search in the order of the turns, the hold is told by `heldBack_iff`, and what the choices leave by
`Served`. -/
theorem rotationRule : Obligations.RotationRule := by
  intro s k work candidate turn settles
  have work_iff (b : BankNo) : (s.bank b).hasWork s.clock = true ↔ work b := (s.bank b).hasWork_iff s.clock
  have candidate_iff (b : BankNo) : s.candidate k b = true ↔ candidate b := by
    rw [State.candidate_iff, work_iff]
  have turn_le (b e : BankNo) : turnOf (s.link k).pointer b ≤ turnOf (s.link k).pointer e ↔ turn b ≤ turn e := by
    rw [Fin.le_def, turnOf_val, turnOf_val]
  refine ⟨fun b => ?choice, ?none, ?held, .serveLink s k, .serveLinks s⟩
  case choice =>
    rw [State.choice, find?_rotation_iff, candidate_iff]
    simp only [candidate_iff, turn_le]
  case none =>
    rw [State.choice, List.find?_eq_none]
    exact ⟨fun none b hb => none b (mem_rotation _ b) ((candidate_iff b).mpr hb),
      fun none b _ hb => none b ((candidate_iff b).mp hb)⟩
  case held =>
    rw [State.heldBack_iff]
    simp only [work_iff]
    rfl

end Sys2Proof.Machine
end

section
/-! Driver frames (R183): reading the bytes of a frame and spelling it are inverse to each other, and a well-formed reply is one that
spells an answer. -/

namespace Sys2Proof.Machine

-- One proof after another: elaborated side by side, the proofs of the whole text need more memory than the check gives.
set_option Elab.async false

/-! ## Entries -/

/-- Reading entries undoes spelling them. -/
theorem readEntries_flatMap {es : List Entry} (small : ∀ y ∈ es, y.value ≤ 4095) :
    readEntries es.length (es.flatMap entryBytes) = some es := by
  induction es with
  | nil => rfl
  | cons y ys ih =>
    obtain ⟨hy, hys⟩ := List.forall_mem_cons.mp small
    have := y.slot.isLt
    have high : (BitVec.ofNat 8 (16 * y.slot.val + y.value / 256)).toNat = 16 * y.slot.val + y.value / 256 := by
      rw [BitVec.toNat_ofNat]; omega
    have low : (BitVec.ofNat 8 y.value).toNat = y.value % 256 := BitVec.toNat_ofNat ..
    have slot : Fin.ofNat 8 ((16 * y.slot.val + y.value / 256) / 16) = y.slot := by
      ext; simp only [Fin.val_ofNat]; omega
    have value : 256 * ((16 * y.slot.val + y.value / 256) % 16) + y.value % 256 = y.value := by omega
    simp only [List.flatMap_cons, entryBytes, List.length_cons, List.cons_append, List.nil_append, readEntries, high, low,
      ih hys, slot, value]
    rw [if_pos (by omega)]
    rfl

/-- Entries that are read were spelt by the bytes, and each has a value of 12 bits. -/
theorem eq_flatMap_of_readEntries {n : Nat} {bytes : List Byte} {es : List Entry} (read : readEntries n bytes = some es) :
    bytes = es.flatMap entryBytes ∧ es.length = n ∧ ∀ y ∈ es, y.value ≤ 4095 := by
  induction n generalizing bytes es with
  | zero =>
    cases bytes with
    | nil => obtain rfl : [] = es := by simpa [readEntries] using read
             simp
    | cons => simp [readEntries] at read
  | succ n ih =>
    match bytes with
    | [] | [_] => simp [readEntries] at read
    | hi :: lo :: rest =>
      rw [readEntries] at read
      split at read
      next low =>
        obtain ⟨ys, hys, rfl⟩ := Option.map_eq_some_iff.mp read
        obtain ⟨rfl, rfl, small⟩ := ih hys
        have := lo.isLt
        have high : BitVec.ofNat 8 (16 * (hi.toNat / 16 % 8) + (256 * (hi.toNat % 16) + lo.toNat) / 256) = hi := by
          apply BitVec.eq_of_toNat_eq; rw [BitVec.toNat_ofNat]; omega
        have low : BitVec.ofNat 8 (256 * (hi.toNat % 16) + lo.toNat) = lo := by
          apply BitVec.eq_of_toNat_eq; rw [BitVec.toNat_ofNat]; omega
        refine ⟨?_, rfl, List.forall_mem_cons.mpr ⟨?_, small⟩⟩
        · simp only [List.flatMap_cons, entryBytes, Fin.val_ofNat, high, low, List.cons_append, List.nil_append]
        · show 256 * (hi.toNat % 16) + lo.toNat ≤ 4095
          omega
      next => cases read

theorem length_flatMap_entryBytes (es : List Entry) : (es.flatMap entryBytes).length = 2 * es.length := by
  induction es with
  | nil => rfl
  | cons y ys ih => simp only [List.flatMap_cons, List.length_append, List.length_cons, ih, entryBytes, List.length_nil]; omega

/-! ## Frames -/

theorem readFrameKind_iff {n : Nat} {kind : FrameKind} : readFrameKind n = some kind ↔ frameKindCode kind = n := by
  constructor
  · exact fun read => by simpa using List.find?_some read
  · rintro rfl; cases kind <;> rfl

theorem frameKindCode_lt (kind : FrameKind) : frameKindCode kind < 8 := by cases kind <;> decide

theorem length_frameBytes (f : Frame) : (frameBytes f).length = 6 + 2 * f.entries.length := by
  simp only [frameBytes, frameBody, crcBytes, List.length_cons, List.length_append, length_flatMap_entryBytes, List.length_nil]
  omega

/-- A frame within the limits of R183. -/
def Frame.Fits (f : Frame) : Prop := f.address ≤ 31 ∧ f.entries.length ≤ 8 ∧ ∀ y ∈ f.entries, y.value ≤ 4095

section undamaged
variable (bytes : List Byte)

theorem any_damaged_map : (bytes.map (RxByte.mk · false)).any RxByte.damaged = false := by simp

theorem map_value_map : (bytes.map (RxByte.mk · false)).map RxByte.value = bytes := by
  rw [List.map_map]
  exact List.map_id' bytes

/-- Bytes none of which is damaged are what their values are. -/
theorem eq_map_of_undamaged {rx : List RxByte} (whole : rx.any RxByte.damaged = false) :
    rx = (rx.map RxByte.value).map (RxByte.mk · false) := by
  rw [List.map_map]
  refine ((List.map_congr_left fun x hx => ?_).trans (List.map_id' rx)).symm
  have sound : x.damaged = false := by simpa using List.any_eq_false.mp whole x hx
  simp [← sound]

end undamaged

/-- Reading a frame undoes spelling it. -/
theorem readFrame_frameBytes {f : Frame} (fits : f.Fits) : readFrame ((frameBytes f).map (RxByte.mk · false)) = some f := by
  obtain ⟨address, count, small⟩ := fits
  have code := frameKindCode_lt f.kind
  have head : (BitVec.ofNat 8 (8 * f.address + frameKindCode f.kind)).toNat = 8 * f.address + frameKindCode f.kind := by
    rw [BitVec.toNat_ofNat]; omega
  have counted : (BitVec.ofNat 8 f.entries.length).toNat = f.entries.length := by rw [BitVec.toNat_ofNat]; omega
  have length := length_flatMap_entryBytes f.entries
  have taken : (f.entries.flatMap entryBytes ++ crcBytes (frameBody f)).take (2 * f.entries.length) =
      f.entries.flatMap entryBytes := List.take_left' length
  have dropped : (f.entries.flatMap entryBytes ++ crcBytes (frameBody f)).drop (2 * f.entries.length) =
      crcBytes (frameBody f) := List.drop_left' length
  have kind : readFrameKind ((8 * f.address + frameKindCode f.kind) % 8) = some f.kind :=
    readFrameKind_iff.mpr (by omega)
  have bytes : frameBytes f = 0x5A#8 :: BitVec.ofNat 8 (8 * f.address + frameKindCode f.kind) :: f.tag ::
      BitVec.ofNat 8 f.entries.length :: (f.entries.flatMap entryBytes ++ crcBytes (frameBody f)) := rfl
  have body : frameBody f = BitVec.ofNat 8 (8 * f.address + frameKindCode f.kind) :: f.tag ::
      BitVec.ofNat 8 f.entries.length :: f.entries.flatMap entryBytes := rfl
  rw [readFrame, any_damaged_map, if_neg Bool.false_ne_true, map_value_map, bytes]
  dsimp only
  rw [counted, taken, dropped, ← body, if_pos, head, kind, readEntries_flatMap small]
  · dsimp only
    have same : (8 * f.address + frameKindCode f.kind) / 8 = f.address := by omega
    rw [same]
  · refine ⟨rfl, count, ?_, rfl⟩
    rw [List.length_append, length]
    rfl

/-- A frame that is read was spelt by the bytes, none of them damaged. -/
theorem eq_frameBytes_of_readFrame {rx : List RxByte} {f : Frame} (read : readFrame rx = some f) :
    f.Fits ∧ rx = (frameBytes f).map (RxByte.mk · false) := by
  unfold readFrame at read
  split at read
  · cases read
  next whole =>
    split at read
    next start head tag count rest bytes =>
      dsimp only at read
      split at read
      next sound =>
        split at read
        next kind entries hkind hentries =>
          obtain rfl := Option.some.inj read
          obtain ⟨rfl, few, length, crc⟩ := sound
          obtain ⟨spelt, counted, small⟩ := eq_flatMap_of_readEntries hentries
          have code := readFrameKind_iff.mp hkind
          have := head.isLt
          have headed : BitVec.ofNat 8 (8 * (head.toNat / 8) + frameKindCode kind) = head := by
            apply BitVec.eq_of_toNat_eq; rw [BitVec.toNat_ofNat]; omega
          have counts : BitVec.ofNat 8 entries.length = count := by
            apply BitVec.eq_of_toNat_eq; rw [BitVec.toNat_ofNat]; have := count.isLt; omega
          refine ⟨⟨by show head.toNat / 8 ≤ 31; omega, counted ▸ few, small⟩, ?_⟩
          rw [eq_map_of_undamaged (Bool.eq_false_iff.mpr whole), bytes]
          have body : frameBody { address := head.toNat / 8, kind, tag, entries } =
              head :: tag :: count :: rest.take (2 * count.toNat) := by
            simp only [frameBody, headed, counts, ← spelt, List.cons_append, List.nil_append]
          rw [frameBytes, body, ← crc]
          simp only [List.cons_append, List.take_append_drop]
        next => cases read
      next => cases read
    next => cases read

theorem readFrame_iff {rx : List RxByte} {f : Frame} :
    readFrame rx = some f ↔ f.Fits ∧ rx = (frameBytes f).map (RxByte.mk · false) :=
  ⟨eq_frameBytes_of_readFrame, fun ⟨fits, spelt⟩ => spelt ▸ readFrame_frameBytes fits⟩

/-- Settles O52. -/
theorem frameRoundTrip : Obligations.FrameRoundTrip := fun f address count small =>
  ⟨length_frameBytes f, readFrame_frameBytes ⟨address, count, small⟩⟩

/-! ## Replies -/

/-- A well-formed reply carries the entries of an answer (R93). -/
theorem wellFormedReply_iff {address : Nat} {x : Exchange} {bytes : List RxByte} {es : List Entry} (low : address ≤ 31) :
    wellFormedReply address x bytes = some es ↔ Answers address x es bytes := by
  constructor
  · intro reply
    cases read : readFrame bytes with
    | none =>
      rw [wellFormedReply, read] at reply
      cases reply
    | some f =>
      obtain ⟨⟨-, count, small⟩, spelt⟩ := readFrame_iff.mp read
      simp only [wellFormedReply, read, Option.ite_none_right_eq_some, Option.some.injEq] at reply
      obtain ⟨⟨rfl, kind, tag, sorted, slots⟩, rfl⟩ := reply
      refine ⟨count, small, sorted, ?_, by rw [spelt, ← kind, ← tag]⟩
      cases hp : x.phase
      case load => trivial
      all_goals simpa [hp] using slots
  · rintro ⟨count, small, sorted, slots, spelt⟩
    have read := readFrame_iff (f := { address, kind := answerKind x.phase, tag := x.tag, entries := es }).mpr
      ⟨⟨low, count, small⟩, spelt⟩
    rw [wellFormedReply, read]
    refine if_pos ⟨rfl, rfl, rfl, sorted, ?_⟩
    cases hp : x.phase
    case load => rfl
    all_goals simpa [hp] using slots

theorem wellFormedReply_eq_none {address : Nat} {x : Exchange} {bytes : List RxByte} (low : address ≤ 31)
    (none_answers : ∀ es, ¬ Answers address x es bytes) : wellFormedReply address x bytes = none :=
  Option.eq_none_iff_forall_ne_some.mpr fun es h => none_answers es ((wellFormedReply_iff low).mp h)

end Sys2Proof.Machine
end

section
/-! Exchanges and their ends (R92 to R103): the settle and survey deadlines that let a link choose, the waits and retries of a
transaction, the judging of replies, and the link strikes with failover and disqualification (R109, R110, R115, R116). -/

namespace Sys2Proof.Machine

-- One proof after another: elaborated side by side, the proofs of the whole text need more memory than the check gives.
set_option Elab.async false

/-! ## Equal states of the Apply Engine -/

theorem State.points_ext {s t : State} (h : ∀ p, s.point p = t.point p) : s.points = t.points :=
  Vector.ext fun i hi => h ⟨i, hi⟩

theorem State.banks_ext {s t : State} (h : ∀ b, s.bank b = t.bank b) : s.banks = t.banks :=
  Vector.ext fun i hi => h ⟨i, hi⟩

/-- Two states that differ from a third in points, banks and link controllers alone are equal where these are. -/
theorem BanksPart.ext {s t u : State} (ht : BanksPart s t) (hu : BanksPart s u) (points : ∀ p, t.point p = u.point p)
    (banks : ∀ b, t.bank b = u.bank b) (links : ∀ k, t.link k = u.link k) : t = u := by
  rw [ht, hu, State.points_ext points, State.banks_ext banks, PerLink.ext_get links]

/-! ## Settle deadlines -/

section settle
variable (s : State) (dt : Nat) (b : BankNo) (k : LinkNo) (d : Time)

/-- A bank has become ACTIVE at its settle deadline, before its link chooses (R91, R113). -/
def State.activated : State :=
  (s.setBank b { s.bank b with state := .active, resync := true, settle := none }).setLink k
    { s.link k with settledAt := some d }

theorem State.settled_eq {s : State} {b : BankNo} {k : LinkNo} (active : (s.bank b).activeLink = some k) :
    s.settled b d = (s.activated b k d).serveLink k := by
  simp only [State.settled, State.activated, State.setBank_bank_self, State.setBank_link, active]

theorem State.activated_bank (c : BankNo) : (s.activated b k d).bank c =
    if c = b then { s.bank b with state := .active, resync := true, settle := none } else s.bank c := by
  rw [State.activated, State.setLink_bank, State.setBank_bank]

/-- With resync set, the exchange that starts is an APPLY of every defined slot (R96). -/
theorem State.Opens.resync {s : State} {k : LinkNo} {b : BankNo} {e : Exchange} (h : s.Opens k b e) (resync : (s.bank b).resync = true) :
    e.link = k ∧ e.attempt = .first ∧ e.phase = .load ∧ e.tag = (s.bank b).tag + 1#8 ∧
      e.loaded = (List.finRange 8).filterMap fun i => if (s.point (pointAt b i)).defn.isSome
        then (s.point (pointAt b i)).target.map (Entry.mk i) else none := by
  obtain ⟨link, attempt, apply, -⟩ := h
  obtain ⟨phase, tag, loaded⟩ := apply (.inr resync)
  simp only [resync, true_or, and_true] at loaded
  exact ⟨link, attempt, phase, tag, loaded⟩

/-- The slots that an APPLY of all defined slots loads. -/
theorem exists_mem_targets {i : SlotNo} : (∃ y ∈ (List.finRange 8).filterMap fun i => if (s.point (pointAt b i)).defn.isSome
        then (s.point (pointAt b i)).target.map (Entry.mk i) else none, y.slot = i) ↔
      (s.point (pointAt b i)).defn.isSome = true ∧ (s.point (pointAt b i)).target.isSome = true := by
  simp only [List.mem_filterMap, List.mem_finRange, true_and, Option.ite_none_right_eq_some, Option.map_eq_some_iff]
  constructor
  · rintro ⟨y, ⟨j, defn, v, target, rfl⟩, rfl⟩
    exact ⟨defn, Option.isSome_iff_exists.mpr ⟨v, target⟩⟩
  · rintro ⟨defn, target⟩
    obtain ⟨v, hv⟩ := Option.isSome_iff_exists.mp target
    exact ⟨⟨i, v⟩, ⟨i, defn, v, hv, rfl⟩, rfl⟩

end settle

/-- Settles O34: the deadline activates the bank, and the rest is the choice of its link. -/
theorem settledBankStarts : Obligations.SettledBankStarts := by
  intro s dt b k d c awake command active settle act u
  obtain ⟨st, hst, next⟩ : ∃ st, (s.bank b).state = st ∧ exec c s = .next ((s.advance dt).settleReached b st) := by
    obtain ⟨rfl, state⟩ | ⟨rfl, state⟩ := command
    · exact ⟨_, state, exec_warmingSettleDeadline dt b awake⟩
    · exact ⟨_, state, exec_switchingSettleDeadline dt b awake⟩
  have activated : (s.advance dt).activated b k d.ms = u := rfl
  have due (h : DueAt (s.advance dt).clock d) : exec c s = .next (u.serveLink k) := by
    obtain ⟨-, early⟩ | ⟨e, he, -, -, settled⟩ := (s.advance dt).settleReached_cases b st
    · exact absurd h (early d settle hst)
    · obtain rfl := Option.some.inj (settle.symm.trans he)
      rw [next, settled, State.settled_eq (s := s.advance dt) _ active, activated]
  have bank_b : u.bank b = act := by rw [← activated, State.activated_bank, if_pos rfl]; rfl
  have bank_other (e : BankNo) (other : e ≠ b) : u.bank e = s.bank e := by
    rw [← activated, State.activated_bank, if_neg other]; rfl
  have link_k : u.link k = { s.link k with settledAt := some d.ms } := PerLink.get_set_self ..
  have link_other : u.link k.other = s.link k.other := PerLink.get_set_ne _ _ _ _ k.other_ne
  refine ⟨fun early => ?early, fun h busy => ?busy, fun e h idle free choice other => ?other, fun h idle free choice => ?own⟩
  case early =>
    obtain ⟨same, -⟩ | ⟨e, he, -, reached, -⟩ := (s.advance dt).settleReached_cases b st
    · rw [next, same]
    · obtain rfl := Option.some.inj (settle.symm.trans he)
      exact absurd reached early
  case busy =>
    rw [due h, u.serveLink_eq_self k (busy.imp (fun h => by rw [link_k]; exact h) .inl)]
  case other =>
    have chooses : u.Chooses k e := ⟨by rw [link_k]; exact idle, free, choice⟩
    have served := Served.serveLink u k
    obtain ⟨x, -, bank, link, -⟩ := served.started k (List.mem_singleton_self k) e chooses
    refine ⟨u.serveLink k, due h, served, by rw [link], by rw [bank]; rfl, ?_⟩
    rw [served.banks b fun j hj own => ?_, bank_b]
    obtain rfl := List.mem_singleton.mp hj
    exact other (chooses.bank_unique own)
  case own =>
    obtain ⟨x, starts⟩ := u.startExchange_starts k b
    have resync : (u.bank b).resync = true := by rw [bank_b]
    obtain ⟨link, attempt, phase, tag, loaded⟩ := starts.opens.resync resync
    rw [bank_b] at tag
    refine ⟨u.startExchange k b, x, ?_, phase, tag, attempt, link, loaded, ?_, ?_, fun p => ?_, fun e other => ?_, ?_, ?_⟩
    · rw [due h, u.serveLink_chosen k b (by rw [link_k]; exact idle) free choice]
    · rw [starts.bank, if_pos rfl, bank_b]
    · rw [starts.link, if_pos rfl, bank_b, link_k, stepFrame, phase]; rfl
    · rw [starts.point]
      refine if_congr ?_ rfl rfl
      rw [loaded, exists_mem_targets]
      refine and_congr_right fun within => ?_
      rw [← within, pointAt_bankOf_slotOf]
      rfl
    · rw [starts.bank, if_neg other, bank_other e other]
    · rw [starts.link, if_neg k.other_ne, link_other]
    · exact BanksPart.trans (show BanksPart (s.advance dt) u from rfl) starts.rest

/-! ## Survey due times -/

/-- The whole state that the start of a SURVEY leaves (R100). -/
theorem State.startSurvey_eq {s : State} {k : LinkNo} {b : BankNo} (idle : ¬ (s.bank b).Applies) :
    s.startExchange k b = { s with
      banks := s.banks.set b { s.bank b with
        exchange := some { phase := .survey, tag := (s.bank b).tag, loaded := [], attempt := .first, link := k } }
      links := s.links.set k { s.link k with
        pointer := b, settledAt := none, transaction := some {
          bank := b, wait := .sending
          frame := { address := ((s.bank b).defn.map BankDef.address).getD 0, kind := .survey, tag := (s.bank b).tag,
                     entries := [] } } } } := by
  have survey : (!(s.bank b).pendingSlots.isEmpty || (s.bank b).resync) = false :=
    Bool.eq_false_iff.mpr fun h => idle ((s.bank b).applies_iff.mp h)
  simp only [State.startExchange, State.setLink_bank, survey, Bool.false_eq_true, if_false, State.startSurvey, State.sendStep,
    State.setBank_bank_self, State.setBank_link, State.setLink_link_self]
  simp only [State.setLink, State.setBank, PerLink.set_set]
  rfl

/-- Settles O36: a due time that is reached lets the link choose; a bank without other work starts its SURVEY. -/
theorem surveyStarts : Obligations.SurveyStarts := by
  intro s dt b k d awake state active survey
  have due (h : DueAt (s.advance dt).clock d) : exec (.surveyDue dt b) s = .next ((s.advance dt).serveLink k) := by
    obtain ⟨-, early⟩ | ⟨e, j, he, hj, -, -, falls⟩ := (s.advance dt).surveyFallsDue_cases b
    · exact absurd h (early d k survey active state)
    · obtain rfl := Option.some.inj (active.symm.trans hj)
      rw [exec_surveyDue dt b awake, falls]
  refine ⟨fun early => ?early, fun h => ⟨_, due h, Served.serveLink _ _⟩, fun h idle free choice pending resync => ?own⟩
  case early =>
    rw [exec_surveyDue dt b awake]
    obtain ⟨same, -⟩ | ⟨e, j, he, -, -, reached, -⟩ := (s.advance dt).surveyFallsDue_cases b
    · rw [same]
    · obtain rfl := Option.some.inj (survey.symm.trans he)
      exact absurd reached early
  case own =>
    have nothing : ¬ ((s.advance dt).bank b).Applies := by
      rintro (⟨i, hi⟩ | set)
      · rw [State.advance_bank, pending] at hi
        simp at hi
      · cases resync.symm.trans set
    rw [due h, (s.advance dt).serveLink_chosen k b idle free choice, State.startSurvey_eq nothing]
    rfl

end Sys2Proof.Machine
end

section
/-! The transactions of the driver links (R92 to R103): waits and retries, the judging of replies, and the strikes on a link with
failover and disqualification (R109, R110, R115, R116). -/

namespace Sys2Proof.Machine

-- One proof after another: elaborated side by side, the proofs of the whole text need more memory than the check gives.
set_option Elab.async false

/-! ## Waits and retries -/

section wait
variable {s : State} {k : LinkNo} {b : BankNo} {d : BankDef} {x : Exchange} {e : Moment}

theorem State.awaited_eq {f : Frame} (waits : (s.link k).transaction = some { bank := b, frame := f, wait := .awaiting e })
    (flight : (s.bank b).exchange = some x) : s.awaited k = some (b, x) := by
  simp only [State.awaited, waits, flight, Option.map_some]

theorem State.awaited_none (idle : (s.link k).transaction = none ∨
    ∃ b f, (s.link k).transaction = some { bank := b, frame := f, wait := .sending }) : s.awaited k = none := by
  obtain none | ⟨b, f, sending⟩ := idle
  · simp only [State.awaited, none]
  · simp only [State.awaited, sending]

/-- The frame of an attempt does not depend on which attempt it is. -/
theorem stepFrame_attempt (address : Nat) (a : Attempt) : stepFrame address { x with attempt := a } = stepFrame address x := rfl

/-- A failed attempt 1 clears the streak and sends the same frame again (R97, R98, R100, R102). -/
theorem State.attemptFails_first (defn : (s.bank b).defn = some d) (first : x.attempt = .first) (f : Failure) :
    s.attemptFails k b x f = { s with
      banks := s.banks.set b { s.bank b with
        exchange := some { x with attempt := .second }
        links := (s.bank b).links.set k { (s.bank b).links.get k with streak := 0 } }
      links := s.links.set k { s.link k with
        transaction := some { bank := b, wait := .sending, frame := stepFrame d.address x } } } := by
  have address : ((s.bank b).defn.map BankDef.address).getD 0 = d.address := by rw [defn]; rfl
  simp only [State.attemptFails, first, State.noteFailedAttempt, State.sendStep, State.setBank_bank_self, State.setBank_link,
    exchangeFrame_eq, BankRec.address, BankRec.setLinkRec, State.setBank_setBank, address, stepFrame_attempt]
  rfl

end wait

/-- Settles O37: the reply timer starts, expires on attempt 1, or leaves its frame to the discard. -/
theorem transactionWaits : Obligations.TransactionWaits := by
  refine ⟨fun s dt k b f awake sending => ?sent, fun s dt k bytes awake => ⟨fun keep idle => ?ignored, fun discard => ?discarded⟩,
    fun s dt k b d x e mid waits => ⟨fun due first => ?retry, fun early => ?early⟩⟩
  case sent =>
    have flight : ((s.advance dt).link k).transaction = some { bank := b, frame := f, wait := .sending } := sending
    rw [exec_driverFrameSent dt k awake, State.frameSent, flight]
    rfl
  case ignored =>
    rw [exec_driverFrameReceived dt k awake, State.frameReceived, State.advance_link, keep, if_neg Bool.false_ne_true,
      State.awaited_none (by exact idle)]
  case discarded =>
    rw [exec_driverFrameReceived dt k awake, State.frameReceived, State.advance_link, if_pos discard]
    rfl
  case retry =>
    obtain ⟨awake, defn, -, flight, transaction⟩ := waits
    have expired : (s.advance dt).replyDue k = true :=
      ((s.advance dt).replyDue_iff k).mpr ⟨_, e, transaction, rfl, due⟩
    have awaited : (s.advance dt).awaited k = some (b, x) := State.awaited_eq transaction flight
    rw [exec_replyTimerExpiry dt k awake, State.replyTimeout, expired, awaited]
    refine congrArg _ ((State.attemptFails_first (d := d) (by exact defn) first _).trans ?_)
    simp only [State.setLink_links, State.setLink_link_self, PerLink.set_set]
    rfl
  case early =>
    obtain ⟨awake, -, -, -, transaction⟩ := waits
    have running : (s.advance dt).replyDue k = false := by
      refine Bool.eq_false_iff.mpr fun expired => ?_
      obtain ⟨t, e', ht, hw, due⟩ := ((s.advance dt).replyDue_iff k).mp expired
      obtain rfl := Option.some.inj (transaction.symm.trans ht)
      obtain rfl := Wait.awaiting.inj hw
      exact early due
    rw [exec_replyTimerExpiry dt k awake, State.replyTimeout, running]

/-! ## Judging a reply -/

section judge
variable {s : State} {dt : Nat} {k : LinkNo} {b : BankNo} {d : BankDef} {x : Exchange} {e : Moment} {bytes : List RxByte}
  {es : List Entry}

/-- A frame that completes while its transaction awaits the reply is judged (R92). -/
theorem State.Waits.received (waits : s.Waits k b d x e) (keep : (s.link k).discardNext = false) :
    exec (.driverFrameReceived dt k bytes) s = .next ((s.advance dt).judge k b x bytes) := by
  obtain ⟨awake, defn, -, flight, transaction⟩ := waits
  have awaited : (s.advance dt).awaited k = some (b, x) := State.awaited_eq transaction flight
  rw [exec_driverFrameReceived dt k awake, State.frameReceived, State.advance_link, keep, if_neg Bool.false_ne_true, awaited]

theorem State.judge_check (defn : (s.bank b).defn = some d) (low : d.address ≤ 31) (bad : ∀ es, ¬ Answers d.address x es bytes) :
    s.judge k b x bytes = s.attemptFails k b x .check := by
  have address : (s.bank b).address = d.address := by rw [BankRec.address, defn]; rfl
  simp only [State.judge, address, wellFormedReply_eq_none low bad]

theorem State.judge_answer (defn : (s.bank b).defn = some d) (low : d.address ≤ 31) (answers : Answers d.address x es bytes) :
    s.judge k b x bytes = match x.phase with
      | .load => s.judgeEcho k b x es
      | .transfer => s.judgeDone k b x es
      | .survey => s.judgeState k b x es := by
  have address : (s.bank b).address = d.address := by rw [BankRec.address, defn]; rfl
  simp only [State.judge, address, (wellFormedReply_iff low).mpr answers] <;> rfl

/-- A valid reply as the bank notes it (R102). -/
theorem LinkRec.validReply_eq (r : LinkRec) (linkdecay : Nat) : r.validReply linkdecay = r.noted linkdecay true := rfl

/-- A matching ECHO (R97). -/
theorem State.judgeEcho_match (defn : (s.bank b).defn = some d) :
    s.judgeEcho k b x x.loaded = { s with
      banks := s.banks.set b { s.bank b with
        exchange := some { x with phase := .transfer, attempt := .first }
        links := (s.bank b).links.set k (((s.bank b).links.get k).noted s.settings.linkdecay true) }
      links := s.links.set k { s.link k with transaction := some {
        bank := b, wait := .sending
        frame := { address := d.address, kind := .transfer, tag := x.tag, entries := [] } } } } := by
  have address : ((s.bank b).defn.map BankDef.address).getD 0 = d.address := by rw [defn]; rfl
  simp only [State.judgeEcho, if_true, State.noteValidReply, State.sendStep, State.setBank_bank_self, State.setBank_link,
    exchangeFrame, BankRec.address, BankRec.setLinkRec, State.setBank_setBank, address, askKind]
  rfl

end judge

/-- Settles O38: a matching ECHO is a valid reply; any other reply to attempt 1 fails it. -/
theorem echoTransfers : Obligations.EchoTransfers := by
  intro s dt k b d x e bytes waits keep
  obtain ⟨-, defn, low, -⟩ := id waits
  have received := waits.received (dt := dt) (bytes := bytes) keep
  refine ⟨fun load answers => ?echo, fun first wrong => ?fails⟩
  case echo =>
    rw [received, State.judge_answer (by exact defn) low answers, load]
    exact congrArg _ (State.judgeEcho_match (by exact defn))
  case fails =>
    have failed : ∃ f, (s.advance dt).judge k b x bytes = (s.advance dt).attemptFails k b x f := by
      by_cases answered : ∃ es, Answers d.address x es bytes
      · obtain ⟨es, answers⟩ := answered
        obtain ⟨load, other⟩ := wrong es answers
        refine ⟨.echo, ?_⟩
        rw [State.judge_answer (by exact defn) low answers, load]
        exact if_neg other
      · exact ⟨.check, State.judge_check (by exact defn) low (not_exists.mp answered)⟩
    obtain ⟨f, failed⟩ := failed
    rw [received, failed]
    exact congrArg _ (State.attemptFails_first (by exact defn) first f)

end Sys2Proof.Machine
end

section
/-! The ends of exchanges (R98 to R103): what the points are left with, and the strike on the link with its failover or
disqualification (R109, R110, R115, R116). -/

namespace Sys2Proof.Machine

-- One proof after another: elaborated side by side, the proofs of the whole text need more memory than the check gives.
set_option Elab.async false

/-! ## Records of a state given by its vectors -/

theorem State.point_of_ofFn {t : State} {f : PointNo → PointRec} (h : t.points = Vector.ofFn f) (p : PointNo) : t.point p = f p := by
  rw [State.point, h]; simp

theorem State.bank_of_set {s t : State} {b : BankNo} {r : BankRec} (h : t.banks = s.banks.set b r) (c : BankNo) :
    t.bank c = if c = b then r else s.bank c := by
  rw [State.bank, h]
  exact s.setBank_bank b c r

theorem State.link_of_set {s t : State} {k : LinkNo} {r : LinkCtl} (h : t.links = s.links.set k r) (j : LinkNo) :
    t.link j = if j = k then r else s.link j := by
  rw [State.link, h]
  exact PerLink.get_set ..

/-- An update that leaves every slot's membership leaves the bank records. -/
theorem State.updatePoints_bank_of_members (s : State) {f : PointNo → PointRec → Bool → PointRec × Bool} (b : BankNo)
    (same : ∀ i, (f (pointAt b i) (s.point (pointAt b i)) (s.bank b).pendingSet[i]).2 = (s.bank b).pendingSet[i]) :
    (s.updatePoints f).bank b = s.bank b := by
  have members : (Vector.ofFn fun i : SlotNo => (f (pointAt b i) (s.point (pointAt b i)) (s.bank b).pendingSet[i]).2) =
      (s.bank b).pendingSet := Vector.ext fun i hi => (Vector.getElem_ofFn hi).trans (same ⟨i, hi⟩)
  rw [State.updatePoints_bank, members]

theorem BanksPart.append {s t : State} (h : BanksPart s t) (e : Event) : BanksPart (s.append e) (t.append e) :=
  congrArg (State.append · e) h

/-! ## Link strikes -/

section strike
variable (s : State) (b : BankNo) (k : LinkNo)

theorem mem_bankPoints {b : BankNo} {p : PointNo} : p ∈ bankPoints b ↔ bankOf p = b := by
  simp only [bankPoints, List.mem_map, List.mem_finRange, true_and]
  constructor
  · rintro ⟨i, rfl⟩; exact bankOf_pointAt b i
  · rintro rfl; exact ⟨slotOf p, pointAt_bankOf_slotOf p⟩

/-- The points of a bank stand in ascending order. -/
theorem pairwise_bankPoints (b : BankNo) : (bankPoints b).Pairwise (· < ·) := by
  refine List.pairwise_map.mpr ((List.pairwise_lt_finRange 8).imp fun {i j} h => ?_)
  rw [Fin.lt_def] at h ⊢
  simp only [pointAt]
  omega

/-- A selection of points of a bank is the same selection of all points. -/
theorem filter_bankPoints (f : PointNo → Bool) :
    (bankPoints b).filter f = (List.finRange 64).filter fun p => decide (bankOf p = b) && f p := by
  refine List.Pairwise.eq_of_mem_iff ((pairwise_bankPoints b).filter _) ((List.pairwise_lt_finRange 64).filter _) fun p => ?_
  simp [mem_bankPoints]

theorem Mark.eq_failed_of_ne_good {m : Mark} (h : m ≠ .good) : m = .failed := by cases m <;> first | rfl | exact absurd rfl h

/-- The links of a bank that are FAILED once link `k` is. -/
theorem failedLinks_of_dead {r : BankRec} {k : LinkNo} (dead : (r.links.get k).mark = .failed) :
    r.failedLinks = if (r.links.get k.other).mark = .good then 1 else 2 := by
  have other : ((r.links.get k.other).mark = .failed) = ¬ ((r.links.get k.other).mark = .good) :=
    propext ⟨fun h g => (nomatch h.symm.trans g), Mark.eq_failed_of_ne_good⟩
  unfold BankRec.failedLinks
  cases k
  · change ((r.links.get .two).mark = .failed) = _ at other
    by_cases good : (r.links.get .two).mark = .good <;> simp [dead, LinkNo.other, other, good]
  · change ((r.links.get .one).mark = .failed) = _ at other
    by_cases good : (r.links.get .one).mark = .good <;> simp [dead, LinkNo.other, other, good]

/-- A disqualified bank, its enable low and every defined point OFF (R115). -/
def State.retired : State :=
  { s with
    points := Vector.ofFn fun p => if bankOf p = b ∧ (s.point p).defn.isSome = true
      then { s.point p with state := .off, applied := none } else s.point p
    banks := s.banks.set b { s.bank b with
      activeLink := none, state := .disqualified, enable := false, pendingSet := Vector.replicate 8 false
      resync := false, settle := none, surveyDue := none } }

theorem BanksPart.retired : BanksPart s (s.retired b) := by
  unfold BanksPart State.retired
  rfl

@[simp] theorem State.retired_link (j : LinkNo) : (s.retired b).link j = s.link j := by
  simp only [State.link, State.retired]

theorem State.retired_point (p : PointNo) : (s.retired b).point p = if bankOf p = b ∧ (s.point p).defn.isSome = true
    then { s.point p with state := .off, applied := none } else s.point p := by
  simp [State.point, State.retired]

theorem State.retired_bank (c : BankNo) : (s.retired b).bank c = if c = b then { s.bank b with
    activeLink := none, state := .disqualified, enable := false, pendingSet := Vector.replicate 8 false, resync := false
    settle := none, surveyDue := none } else s.bank c := by
  simp only [State.retired, State.bank]
  exact s.setBank_bank b c _

theorem State.updatePoints_retired :
    (s.setBank b { s.bank b with
      state := .disqualified, enable := false, pendingSet := noSlots, resync := false, activeLink := none, settle := none,
      surveyDue := none }).updatePoints (fun p r member =>
        if bankOf p = b ∧ r.defined = true then ({ r with state := .off, applied := none }, member) else (r, member)) =
      s.retired b := by
  refine BanksPart.ext (s := s) (.trans (.setBank ..) (.updatePoints ..)) (BanksPart.retired s b) (fun p => ?_) (fun c => ?_) fun j => ?_
  · rw [State.updatePoints_point, State.setBank_point, State.retired_point, PointRec.defined]
    split <;> rfl
  · rw [State.updatePoints_bank_of_members _ c fun i => by split <;> rfl, State.setBank_bank, State.retired_bank]
    rfl
  · rw [State.updatePoints_link, State.setBank_link, State.retired_link]

/-- The whole state that a disqualification leaves (R115, R116). -/
theorem State.disqualify_eq : s.disqualify b k = (s.retired b).append
    { code := .bankDisqualified, bank := some b, link := some k,
      point := ((List.finRange 64).filter fun p => bankOf p = b && (s.point p).defn.isSome).head?
      values := [((List.finRange 64).filter fun p => bankOf p = b && (s.point p).defn.isSome).length] } := by
  have made : s.definedIn b = (List.finRange 64).filter fun p => bankOf p = b && (s.point p).defn.isSome := by
    rw [State.definedIn, filter_bankPoints]; rfl
  rw [State.disqualify, made, State.updatePoints_retired]

/-- A bank record with its link `k` FAILED (R109). -/
def BankRec.dead (r : BankRec) (k : LinkNo) : BankRec := r.setLinkRec k { mark := .failed, strikes := 0, streak := 0 }

theorem BankRec.dead_mk (r : BankRec) (k : LinkNo) :
    r.setLinkRec k { mark := .failed, strikes := 0, streak := 0 } = r.dead k := rfl

theorem BankRec.dead_other (r : BankRec) (k : LinkNo) : (r.dead k).links.get k.other = r.links.get k.other :=
  PerLink.get_set_ne _ _ _ _ k.other_ne

theorem BankRec.failedLinks_dead (r : BankRec) (k : LinkNo) :
    (r.dead k).failedLinks = if (r.links.get k.other).mark = .good then 1 else 2 := by
  have dead : ((r.dead k).links.get k).mark = .failed := congrArg LinkRec.mark (PerLink.get_set_self ..)
  rw [failedLinks_of_dead dead, BankRec.dead_other]

/-- The failure of a link: failover where the other link is GOOD, disqualification otherwise (R109, R110, R115). -/
theorem State.failLink_eq (cause : Cause) : s.failLink b k cause =
    if ((s.bank b).links.get k.other).mark = .good then
      ((s.setBank b ((s.bank b).dead k)).append
        { code := .linkFailed, bank := some b, link := some k, cause := some cause, values := [1] }).failover b k
    else ((s.setBank b ((s.bank b).dead k)).append
        { code := .linkFailed, bank := some b, link := some k, cause := some cause, values := [2] }).disqualify b k := by
  have links : ((s.setBank b ((s.bank b).dead k)).bank b).failedLinks =
      if ((s.bank b).links.get k.other).mark = .good then 1 else 2 := by
    rw [State.setBank_bank_self, BankRec.failedLinks_dead]
  have other (e : Event) : ((((s.setBank b ((s.bank b).dead k)).append e).bank b).links.get k.other).mark =
      ((s.bank b).links.get k.other).mark := by
    rw [State.append_bank, State.setBank_bank_self, BankRec.dead_other]
  unfold State.failLink
  simp only [BankRec.dead_mk, links, other]
  split <;> rfl

theorem State.append_setBank (e : Event) (r : BankRec) : (s.append e).setBank b r = (s.setBank b r).append e := rfl

theorem State.append_retired (e : Event) : (s.append e).retired b = (s.retired b).append e := by
  refine BanksPart.ext (s := s.append e) (BanksPart.retired ..) ((BanksPart.retired s b).append e) (fun p => ?_) (fun c => ?_)
    fun j => ?_
  · rw [State.retired_point, State.append_point, State.append_point, State.retired_point]
  · simp only [State.retired_bank, State.append_bank]
  · simp only [State.retired_link, State.append_link]

theorem State.retired_dead (s : State) (b : BankNo) (k : LinkNo) :
    (s.setBank b ((s.bank b).dead k)).retired b = { s with
      points := Vector.ofFn fun p => if bankOf p = b ∧ (s.point p).defn.isSome = true
        then { s.point p with state := .off, applied := none } else s.point p
      banks := s.banks.set b { s.bank b with
        links := (s.bank b).links.set k ⟨.failed, 0, 0⟩, activeLink := none, state := .disqualified, enable := false
        pendingSet := Vector.replicate 8 false, resync := false, settle := none, surveyDue := none } } := by
  rw [State.retired, State.setBank_banks, Vector.set_set, State.setBank_bank_self]
  simp only [State.setBank_point]
  rfl

/-- A strike on a link as the statements describe it (R103, R109). -/
theorem State.strikeLink_eq (cause : Cause) (tag : Byte) (point : Option PointNo) (slots : Nat) :
    s.strikeLink b k cause tag point slots = s.linkStruck k b cause tag point slots := by
  unfold State.strikeLink State.linkStruck
  dsimp only
  by_cases last : ((s.bank b).links.get k).strikes + 1 = s.settings.linkstrikes
  · rw [if_pos (by exact last), if_neg (not_not.mpr last), State.failLink_eq]
    by_cases good : ((s.bank b).links.get k.other).mark = .good
    · rw [if_pos (by exact good), if_pos good]
      simp only [State.failover, State.append_bank, State.setBank_bank_self, State.append_setBank, State.setBank_setBank]
      cases k <;> rfl
    · rw [if_neg (by exact good), if_neg good, State.disqualify_eq]
      simp only [State.append_setBank, State.append_retired, State.append_point, State.setBank_point, State.append_bank,
        State.retired_dead]
  · rw [if_neg (by exact last), if_pos last]
    rfl

end strike


/-! ## The end of an exchange -/

section ends
variable (s : State) (k : LinkNo) (b : BankNo) {valid : Bool} {f g : PointNo → PointRec → Bool → PointRec × Bool}

/-- Steps 2 and 3 of a finish: the survey due time is set and no exchange is in flight (R99, R101). -/
def State.exchangeEnds : State :=
  (s.setBank b { s.bank b with surveyDue := some (s.expiry s.settings.survey), exchange := none }).setLink k
    { s.link k with transaction := none }

/-- The strike that the end of an exchange charges (R99, R103). -/
def State.endStruck (x : Exchange) : Ending → State
  | .clean => s
  | .sense ps => s.linkStruck k b (.exchange x.phase .sense) x.tag ps.head? ps.length
  | .abandoned f => s.linkStruck k b (.exchange x.phase f) x.tag none 0

theorem State.finish_eq (x : Exchange) (e : Ending) :
    s.finish k b x e = ((s.exchangeEnds k b).endStruck k b x e).serveLink k := by
  cases e <;> simp only [State.finish, State.strikeLink_eq] <;> rfl

theorem BanksPart.exchangeOver : BanksPart s (s.exchangeOver k b valid g) := by
  unfold BanksPart State.exchangeOver
  rfl

theorem State.exchangeOver_point (p : PointNo) : (s.exchangeOver k b valid g).point p =
    if bankOf p = b then (g p (s.point p) (s.slotPending p)).1 else s.point p := by
  simp [State.point, State.exchangeOver]

theorem State.exchangeOver_bank (c : BankNo) : (s.exchangeOver k b valid g).bank c = if c = b then { s.bank b with
      pendingSet := Vector.ofFn fun i => (g (pointAt b i) (s.point (pointAt b i)) (s.bank b).pendingSet[i]).2
      surveyDue := some (s.expiry s.settings.survey), exchange := none
      links := (s.bank b).links.set k (((s.bank b).links.get k).noted s.settings.linkdecay valid) } else s.bank c := by
  simp only [State.exchangeOver, State.bank]
  exact s.setBank_bank b c _

theorem State.exchangeOver_link (j : LinkNo) : (s.exchangeOver k b valid g).link j =
    if j = k then { s.link k with transaction := none } else s.link j := by
  simp only [State.exchangeOver, State.link]
  exact PerLink.get_set ..

theorem State.updatePoints_expiry (n : Nat) : (s.updatePoints f).expiry n = s.expiry n := by
  rw [State.expiry, State.deadline, State.now, State.updatePoints_clock]
  rfl

/-- The streak noted, the points updated and the exchange ended: what the statements call `exchangeOver`. -/
theorem State.exchangeEnds_updatePoints (within : ∀ p r m, f p r m = if bankOf p = b then g p r m else (r, m)) :
    ((s.setBank b ((s.bank b).setLinkRec k (((s.bank b).links.get k).noted s.settings.linkdecay valid))).updatePoints
      f).exchangeEnds k b = s.exchangeOver k b valid g := by
  refine BanksPart.ext (s := s) (.trans (.setBank ..) (.trans (.updatePoints ..) (.trans (.setBank ..) (.setLink ..))))
    (BanksPart.exchangeOver s k b) (fun p => ?point) (fun c => ?bank) fun j => ?link
  case point =>
    have member : (s.setBank b ((s.bank b).setLinkRec k (((s.bank b).links.get k).noted s.settings.linkdecay valid))).slotPending p =
        s.slotPending p := by
      rw [State.slotPending, State.slotPending, State.setBank_bank]
      split
      next same => subst same; rfl
      next => rfl
    rw [State.exchangeEnds, State.setLink_point, State.setBank_point, State.updatePoints_point, State.setBank_point, member,
      within, State.exchangeOver_point]
    split <;> rfl
  case bank =>
    rw [State.exchangeEnds, State.setLink_bank, State.setBank_bank, State.exchangeOver_bank]
    by_cases same : c = b
    · rw [if_pos same, if_pos same, State.updatePoints_bank, State.setBank_bank_self]
      simp only [within, bankOf_pointAt, if_true, State.setBank_point, State.updatePoints_expiry, State.updatePoints_settings]
      rfl
    · rw [if_neg same, if_neg same, State.updatePoints_bank_of_members, State.setBank_bank, if_neg same]
      intro i
      rw [within, bankOf_pointAt, if_neg same]
  case link =>
    rw [State.exchangeEnds, State.setLink_link, State.exchangeOver_link]
    simp only [State.setBank_link, State.updatePoints_link]

end ends

/-! ## Confirmed values -/

theorem ascending_iff {es : List Entry} : ascending es = true ↔ es.Pairwise fun e f => e.slot < f.slot := by
  rw [← List.isChain_iff_pairwise]
  induction es with
  | nil => exact iff_of_true rfl .nil
  | cons e es ih =>
    cases es with
    | nil => exact iff_of_true rfl (.singleton e)
    | cons f fs => rw [ascending, Bool.and_eq_true, decide_eq_true_eq, ih, List.isChain_cons_cons]

/-- In a list of ascending slots each entry is the one found for its slot. -/
theorem entryFor_eq_some {es : List Entry} (sorted : ascending es = true) {i : SlotNo} {v : Nat} :
    entryFor es i = some v ↔ ⟨i, v⟩ ∈ es := by
  have nodup : (es.map Entry.slot).Nodup :=
    List.pairwise_map.mpr ((ascending_iff.mp sorted).imp fun less => ne_of_lt less)
  simp only [entryFor, Option.map_eq_some_iff]
  constructor
  · rintro ⟨⟨j, w⟩, found, rfl⟩
    have slot : j = i := by simpa using List.find?_some found
    exact slot ▸ List.mem_of_find?_eq_some found
  · intro mem
    obtain ⟨y, found⟩ : ∃ y, es.find? (fun e => e.slot = i) = some y :=
      Option.isSome_iff_exists.mp (List.find?_isSome.mpr ⟨_, mem, by simp⟩)
    have slot : y.slot = i := by simpa using List.find?_some found
    have same : y = ⟨i, v⟩ := List.inj_on_of_nodup_map nodup (List.mem_of_find?_eq_some found) mem slot
    exact ⟨y, found, by rw [same]⟩

theorem senses_eq_confirms (es : List Entry) (p : PointNo) (v : Nat) (r : PointRec) :
    senses es (slotOf p) v r = confirms es p v r := by
  unfold senses confirms
  change (match entryFor es (slotOf p) with | some w => _ | none => _) = match entryFor es (slotOf p) with | some w => _ | none => _
  cases entryFor es (slotOf p) with
  | none => rfl
  | some w => simp only [apart_eq_max]; rfl

/-- The points a DONE does not confirm are the loaded ones of the bank whose sensed value is off, in ascending order (R98). -/
theorem State.senseFailures_eq (s : State) (b : BankNo) {loaded : List Entry} (es : List Entry)
    (sorted : ascending loaded = true) :
    s.senseFailures b loaded es = (List.finRange 64).filter fun p => bankOf p = b && match carried loaded p with
      | some v => !confirms es p v (s.point p)
      | none => false := by
  refine List.Pairwise.eq_of_mem_iff (r := (· < ·)) ?_ ((List.pairwise_lt_finRange 64).filter _) fun p => ?_
  · refine List.pairwise_map.mpr (((ascending_iff.mp sorted).filter _).imp fun {e f} less => ?_)
    rw [Fin.lt_def] at less ⊢
    simp only [pointAt]
    omega
  · have carries : carried loaded p = entryFor loaded (slotOf p) := rfl
    simp only [State.senseFailures, List.mem_map, List.mem_filter, List.mem_finRange, true_and, Bool.and_eq_true,
      decide_eq_true_eq, carries]
    constructor
    · rintro ⟨y, ⟨mem, wrong⟩, rfl⟩
      have found : entryFor loaded y.slot = some y.value := (entryFor_eq_some sorted).mpr mem
      rw [slotOf_pointAt, found]
      refine ⟨bankOf_pointAt .., ?_⟩
      simpa only [← senses_eq_confirms, slotOf_pointAt] using wrong
    · rintro ⟨rfl, wrong⟩
      cases found : entryFor loaded (slotOf p) with
      | none => rw [found] at wrong; cases wrong
      | some v =>
        rw [found] at wrong
        refine ⟨⟨slotOf p, v⟩, ⟨(entryFor_eq_some sorted).mp found, ?_⟩, pointAt_bankOf_slotOf p⟩
        rw [pointAt_bankOf_slotOf, senses_eq_confirms]
        exact wrong

/-- The points a STATE finds beyond tolerance, in ascending order (R101). -/
theorem State.surveyFailures_eq (s : State) (b : BankNo) (es : List Entry) :
    s.surveyFailures b es = (List.finRange 64).filter fun p => bankOf p = b && (s.point p).defn.isSome &&
      match (s.point p).applied with
      | some v => !confirms es p v (s.point p)
      | none => false := by
  rw [State.surveyFailures, filter_bankPoints]
  refine List.filter_congr fun p _ => ?_
  rw [Bool.and_assoc, PointRec.defined]
  refine congrArg _ ?_
  cases (s.point p).defn.isSome <;> cases (s.point p).applied <;> simp [senses_eq_confirms]

/-! ## The judging of DONE and STATE -/

section finish
variable {s : State} {k : LinkNo} {b : BankNo} {x : Exchange}

/-- The reply is noted as valid where nothing failed, and as a failed attempt otherwise (R102). -/
theorem State.note_eq (valid : Bool) : (if valid then s.noteValidReply b k else s.noteFailedAttempt b k) =
    s.setBank b ((s.bank b).setLinkRec k (((s.bank b).links.get k).noted s.settings.linkdecay valid)) := by
  cases valid <;> rfl

/-- The strike of an exchange that has ended with sense failures, or without any (R99, R101). -/
theorem State.endStruck_sense (u : State) (failed : List PointNo) :
    u.endStruck k b x (if failed.isEmpty then .clean else .sense failed) = if failed = [] then u
      else u.linkStruck k b (.exchange x.phase .sense) x.tag failed.head? failed.length := by
  cases failed <;> rfl

theorem reconcile_eq (r : PointRec) : reconcile r = reconciled r := rfl

/-- A well-formed DONE finishes its APPLY (R98, R99). -/
theorem State.judgeDone_eq {es : List Entry} (transfer : x.phase = .transfer) {failed : List PointNo}
    (hfailed : s.senseFailures b x.loaded es = failed) :
    s.judgeDone k b x es =
      (let u := s.exchangeOver k b failed.isEmpty fun p r member => match carried x.loaded p with
        | some v => reconciled { r with applied := if confirms es p v r then some v else none }
        | none => (r, member)
      if failed = [] then u else u.linkStruck k b (.exchange .transfer .sense) x.tag failed.head? failed.length).serveLink k := by
  simp only [State.judgeDone, hfailed, State.note_eq, State.finish_eq, State.reconcileLoaded, State.endStruck_sense, transfer]
  rw [State.exchangeEnds_updatePoints]
  intro p r member
  simp only [senses_eq_confirms, reconcile_eq]
  rfl

/-- A well-formed STATE finishes its SURVEY (R101). -/
theorem State.judgeState_eq {es : List Entry} (survey : x.phase = .survey) {failed : List PointNo}
    (hfailed : s.surveyFailures b es = failed) :
    s.judgeState k b x es =
      (let u := s.exchangeOver k b failed.isEmpty fun p r member =>
        if p ∈ failed then ({ r with applied := none, state := .pending }, true) else (r, member)
      if failed = [] then u else u.linkStruck k b (.exchange .survey .sense) x.tag failed.head? failed.length).serveLink k := by
  simp only [State.judgeState, hfailed, State.note_eq, State.finish_eq, State.endStruck_sense, survey]
  rw [State.exchangeEnds_updatePoints]
  intro p r member
  have within (mem : p ∈ failed) : bankOf p = b := by
    rw [← hfailed, State.surveyFailures] at mem
    exact mem_bankPoints.mp (List.mem_of_mem_filter mem)
  by_cases mem : p ∈ failed
  · rw [if_pos mem, if_pos (within mem)]
  · rw [if_neg mem, ite_self]

/-- How the points of an abandoned exchange are left (R13, R14, R97, R98). -/
def Exchange.abandonPoint (x : Exchange) (p : PointNo) (r : PointRec) (member : Bool) : PointRec × Bool :=
  match x.phase, carried x.loaded p with
  | .load, some _ => reconciled r
  | .transfer, some _ => reconciled { r with applied := none }
  | _, _ => (r, member)

theorem State.updatePoints_self : s.updatePoints (fun _ r member => (r, member)) = s := by
  refine BanksPart.ext (.updatePoints ..) (.refl s) (fun p => by rw [State.updatePoints_point]) (fun c => ?_) fun j => ?_
  · exact s.updatePoints_bank_of_members c fun _ => rfl
  · rw [State.updatePoints_link]

/-- The failure of attempt 2 abandons the exchange and strikes its link (R97, R98, R100). -/
theorem State.attemptFails_second (second : x.attempt = .second) (f : Failure) :
    s.attemptFails k b x f = ((s.exchangeOver k b false x.abandonPoint).linkStruck k b (.exchange x.phase f) x.tag none 0).serveLink
      k := by
  have noted : s.noteFailedAttempt b k =
      s.setBank b ((s.bank b).setLinkRec k (((s.bank b).links.get k).noted s.settings.linkdecay false)) := rfl
  have loads (t : State) (applied : SlotNo → Nat → PointRec → Option Nat) : t.reconcileLoaded b x.loaded applied =
      t.updatePoints fun p r member => if bankOf p = b then match carried x.loaded p with
        | some v => reconciled { r with applied := applied (slotOf p) v r }
        | none => (r, member) else (r, member) := rfl
  unfold State.attemptFails
  simp only [second, noted, State.abandon, State.finish_eq, loads]
  cases phase : x.phase with
  | load =>
    rw [State.exchangeEnds_updatePoints (g := x.abandonPoint)]
    · simp only [State.endStruck, phase]
    · intro p r member
      simp only [Exchange.abandonPoint, phase]
      cases carried x.loaded p <;> rfl
  | transfer =>
    rw [State.exchangeEnds_updatePoints (g := x.abandonPoint)]
    · simp only [State.endStruck, phase]
    · intro p r member
      simp only [Exchange.abandonPoint, phase]
      cases carried x.loaded p <;> rfl
  | survey =>
    rw [← State.updatePoints_self (s := s.setBank b _), State.exchangeEnds_updatePoints (g := x.abandonPoint)]
    · simp only [State.endStruck, phase]
    · intro p r member
      simp only [Exchange.abandonPoint, phase, ite_self]

end finish

/-- The loaded slots ascend where a DONE that carries exactly these slots does (R93). -/
theorem ascending_of_slots {es fs : List Entry} (slots : es.map Entry.slot = fs.map Entry.slot) (sorted : ascending es = true) :
    ascending fs = true := by
  have pairs : (es.map Entry.slot).Pairwise (· < ·) := List.pairwise_map.mpr (ascending_iff.mp sorted)
  rw [slots] at pairs
  exact ascending_iff.mpr (List.pairwise_map.mp pairs)

/-- Settles O39: the failures are those the model lists, and what the finish leaves before its strike is `exchangeOver`. -/
theorem doneConfirms : Obligations.DoneConfirms := by
  intro s dt k b d x e es bytes waits keep answers
  obtain ⟨-, defn, low, -⟩ := id waits
  have received := waits.received (dt := dt) (bytes := bytes) keep
  rw [State.judge_answer (by exact defn) low answers] at received
  obtain ⟨-, -, sorted, slots, -⟩ := answers
  refine ⟨fun transfer => ?done, fun survey => ?state⟩
  case done =>
    rw [transfer] at received slots
    have failed := (s.advance dt).senseFailures_eq b es (ascending_of_slots slots sorted)
    exact ⟨_, received.trans (congrArg _ (State.judgeDone_eq transfer failed)), Served.serveLink _ k⟩
  case state =>
    rw [survey] at received
    have failed := (s.advance dt).surveyFailures_eq b es
    exact ⟨_, received.trans (congrArg _ (State.judgeState_eq survey failed)), Served.serveLink _ k⟩

/-- Settles O40: whichever way attempt 2 fails, the exchange is abandoned and its link struck. -/
theorem abandonedSurveyStrikes : Obligations.AbandonedSurveyStrikes := by
  intro s dt k b d x e waits second ended abandoned
  obtain ⟨awake, defn, low, flight, transaction⟩ := id waits
  have received {bytes : List RxByte} (keep : (s.link k).discardNext = false) (f : Failure)
      (failed : (s.advance dt).judge k b x bytes = (s.advance dt).attemptFails k b x f) :
      abandoned (.driverFrameReceived dt k bytes) false f := by
    have unmarked : { s.link k with discardNext := false } = s.link k := by rw [← keep]
    have same : { s.advance dt with links := s.links.set k { s.link k with discardNext := false } } = s.advance dt := by
      rw [unmarked, State.link, PerLink.set_get]
      rfl
    have ended_eq : ended false = (s.advance dt).exchangeOver k b false x.abandonPoint := by
      simp only [ended, same]
      rfl
    refine ⟨_, ?_, Served.serveLink _ k⟩
    rw [waits.received keep, failed, State.attemptFails_second second f, ended_eq]
  refine ⟨fun mid due => ?timeout, fun bytes keep => ⟨fun bad => ?check, fun es load answers other => ?echo⟩⟩
  case timeout =>
    have expired : (s.advance dt).replyDue k = true := ((s.advance dt).replyDue_iff k).mpr ⟨_, e, transaction, rfl, due⟩
    have awaited : (s.advance dt).awaited k = some (b, x) := State.awaited_eq transaction flight
    refine ⟨_, ?_, Served.serveLink _ k⟩
    rw [exec_replyTimerExpiry dt k awake, State.replyTimeout, expired, awaited]
    exact congrArg _ (State.attemptFails_second second .timeout)
  case check => exact received keep .check (State.judge_check (by exact defn) low bad)
  case echo =>
    refine received keep .echo ?_
    rw [State.judge_answer (by exact defn) low answers, load]
    exact if_neg other

end Sys2Proof.Machine
end

section
/-! Request lines as characters (R157, R158, R180): when a line passes each check, that every accepted spelling of a request is read
back as it, and how the sequence decision answers a line that does not go on (R161). -/

namespace Sys2Proof.Machine

-- One proof after another: elaborated side by side, the proofs of the whole text need more memory than the check gives.
set_option Elab.async false

/-! ## Hexadecimal digits -/

theorem hexRun_append (t : Text) (c : Byte) : hexRun (t ++ [c]) = match hexRun t, hexValue c with
    | some n, some d => some (16 * n + d)
    | _, _ => none := by
  rw [hexRun, List.foldl_append]
  rfl

theorem hexValue_hexDigit {d : Nat} (h : d < 16) : hexValue (hexDigit d) = some d := by
  have table : ∀ d : Fin 16, hexValue (hexDigit d.val) = some d.val := by decide
  exact table ⟨d, h⟩

theorem hexRun_hexDigits (k n : Nat) : hexRun (hexDigits k n) = some (n % 16 ^ k) := by
  induction k generalizing n with
  | zero => simp [hexDigits, hexRun, Nat.mod_one]
  | succ k ih =>
    rw [hexDigits, hexRun_append, ih, hexValue_hexDigit (Nat.mod_lt _ (by decide))]
    have : n % 16 ^ (k + 1) = n % 16 + 16 * (n / 16 % 16 ^ k) := by rw [Nat.pow_succ', Nat.mod_mul]
    simp only [this, Option.some.injEq]
    omega

theorem length_hexDigits (k n : Nat) : (hexDigits k n).length = k := by
  induction k generalizing n with
  | zero => rfl
  | succ k ih => rw [hexDigits, List.length_append, ih]; rfl

/-- The digits of a reply or a canonical line spell their number (R180). -/
theorem readHex_hexDigits {k n : Nat} (small : n < 16 ^ k) : readHex k (hexDigits k n) = some n := by
  rw [readHex, if_pos (length_hexDigits k n), hexRun_hexDigits, Nat.mod_eq_of_lt small]

theorem printable_of_hexValue {c : Byte} (h : (hexValue c).isSome = true) : printable c = true := by
  unfold hexValue at h
  dsimp only at h
  unfold printable
  rw [Bool.and_eq_true, decide_eq_true_eq, decide_eq_true_eq]
  split_ifs at h <;> first | omega | cases h

/-- Every character of a run that spells a number is a digit. -/
theorem printable_of_hexRun {t : Text} (read : (hexRun t).isSome = true) : ∀ c ∈ t, printable c = true := by
  induction t using List.reverseRecOn with
  | nil => simp
  | append_singleton t c ih =>
    rw [hexRun_append] at read
    cases ht : hexRun t with
    | none => rw [ht] at read; cases read
    | some n =>
      cases hc : hexValue c with
      | none => rw [ht, hc] at read; cases read
      | some d =>
        have last : printable c = true := printable_of_hexValue (by rw [hc]; rfl)
        simpa [last, or_imp, forall_and] using ih (by rw [ht]; rfl)

theorem readHex_eq_some {k n : Nat} {t : Text} : readHex k t = some n ↔ t.length = k ∧ hexRun t = some n := by
  rw [readHex, Option.ite_none_right_eq_some]

/-! ## The checks of a line -/

section split
variable {t covered : Text} {crc : Nat}

/-- Check 3 of R158: the shape of a line, as it is split. -/
theorem splitLine_eq_some : splitLine t = some (covered, crc) ↔ ShapedLine t covered crc := by
  constructor
  · intro split
    simp only [splitLine, Option.ite_none_right_eq_some, Option.map_eq_some_iff, Prod.mk.injEq] at split
    obtain ⟨⟨ends, star, colon, space, chars⟩, n, digits, rfl, rfl⟩ := split
    have long : 7 < t.length := by
      by_contra short
      rw [show t.length - 7 = 0 by omega] at colon
      cases colon
    obtain ⟨rest, tail⟩ : ∃ rest, t.drop (t.length - 7) = charStar :: rest := List.head?_eq_some_iff.mp star
    have six : rest.length = 6 := by
      have length := congrArg List.length tail
      rw [List.length_drop, List.length_cons] at length
      omega
    have last : rest.drop 4 = [charCR, charLF] := by
      have skipped : (t.drop (t.length - 7)).drop 5 = rest.drop 4 := by rw [tail]; rfl
      rw [← skipped, List.drop_drop, show t.length - 7 + 5 = t.length - 2 by omega, ends]
    rw [tail] at digits
    refine ⟨rest.take 4, ?_, digits, colon, space, chars⟩
    calc t = t.take (t.length - 7) ++ t.drop (t.length - 7) := (List.take_append_drop ..).symm
      _ = t.take (t.length - 7) ++ charStar :: (rest.take 4 ++ rest.drop 4) := by rw [tail, List.take_append_drop]
      _ = t.take (t.length - 7) ++ charStar :: rest.take 4 ++ [charCR, charLF] := by rw [last]; simp
  · rintro ⟨digits, rfl, read, colon, space, chars⟩
    have four : digits.length = 4 := (readHex_eq_some.mp read).1
    have whole : (covered ++ charStar :: digits ++ [charCR, charLF]).length - 7 = covered.length := by
      simp [four]
    have short : (covered ++ charStar :: digits ++ [charCR, charLF]).length - 2 = (covered ++ charStar :: digits).length := by
      simp; omega
    have taken : (covered ++ charStar :: digits ++ [charCR, charLF]).take covered.length = covered := by simp
    have dropped : (covered ++ charStar :: digits ++ [charCR, charLF]).drop covered.length =
        charStar :: (digits ++ [charCR, charLF]) := by simp
    have ends : (covered ++ charStar :: digits ++ [charCR, charLF]).drop (covered ++ charStar :: digits).length =
        [charCR, charLF] := List.drop_left
    have read_digits : (digits ++ [charCR, charLF]).take 4 = digits := List.take_left' four
    rw [splitLine]
    simp only [whole, short, taken, dropped, ends, List.head?_cons, List.drop_one, List.tail_cons, read_digits, read, colon,
      space, chars, and_self, if_true, Option.map_some]

end split

section tokens
variable {cur tok rest : Text}

/-- A character of a token is no space. -/
theorem ne_space_of_printable {c : Byte} (h : printable c = true) : c ≠ charSpace := by
  rintro rfl
  cases h

theorem goodToken_iff {t : Text} : goodToken t = true ↔ t ≠ [] ∧ ∀ c ∈ t, printable c = true := by
  simp [goodToken]

theorem tokensFrom_append (printed : ∀ c ∈ tok, printable c = true) : tokensFrom cur (tok ++ rest) = tokensFrom (cur ++ tok) rest := by
  induction tok generalizing cur with
  | nil => simp
  | cons c cs ih =>
    obtain ⟨hc, hcs⟩ := List.forall_mem_cons.mp printed
    rw [List.cons_append, tokensFrom, if_neg (ne_space_of_printable hc), ih hcs, List.append_assoc, List.singleton_append]

theorem tokensFrom_spaces (n : Nat) : tokensFrom [] (List.replicate n charSpace ++ rest) = tokensFrom [] rest := by
  induction n with
  | zero => rfl
  | succ n ih => rw [List.replicate_succ, List.cons_append, tokensFrom, if_pos rfl, if_pos rfl, ih]

/-- The first token of a text that begins with it and a space. -/
theorem tokensFrom_token (good : goodToken tok = true) (n : Nat) :
    tokensFrom [] (tok ++ (List.replicate (n + 1) charSpace ++ rest)) = tok :: tokensFrom [] rest := by
  obtain ⟨some_char, printed⟩ := goodToken_iff.mp good
  rw [tokensFrom_append printed, List.replicate_succ, List.cons_append, List.nil_append, tokensFrom, if_pos rfl,
    if_neg some_char, tokensFrom_spaces]

/-- Tokens with one or more spaces after each are read back one by one. -/
theorem tokensFrom_fields {gaps : List Nat} {fields : List Text} (last : Nat) (good : goodToken tok = true)
    (goods : ∀ f ∈ fields, goodToken f = true) (count : gaps.length = fields.length) :
    tokensFrom [] (tok ++ ((gaps.zip fields).flatMap (fun g => List.replicate (g.1 + 1) charSpace ++ g.2) ++
      List.replicate (last + 1) charSpace)) = tok :: fields := by
  induction fields generalizing tok gaps with
  | nil =>
    have ended := tokensFrom_token (rest := []) good last
    rw [List.append_nil] at ended
    simpa [tokensFrom] using ended
  | cons f fs ih =>
    cases gaps with
    | nil => cases count
    | cons g gs =>
      obtain ⟨hf, hfs⟩ := List.forall_mem_cons.mp goods
      rw [List.zip_cons_cons, List.flatMap_cons, List.append_assoc, List.append_assoc, tokensFrom_token good,
        ih hf hfs (Nat.succ.inj count)]

theorem tokensFrom_ne_nil (begun : cur ≠ []) : tokensFrom cur rest ≠ [] := by
  induction rest generalizing cur with
  | nil => rw [tokensFrom, if_neg begun]; exact List.cons_ne_nil _ _
  | cons c cs ih =>
    rw [tokensFrom, if_neg begun]
    split
    · exact List.cons_ne_nil _ _
    · exact ih (by simp)

end tokens

section covered
variable {text covered : Text}

/-- Check 5 of R158: a number, a space and a verb directly after the marker. -/
theorem readCovered_headed {h i v : Byte} {rest : Text} {n : Nat} (read : readHex 2 [h, i] = some n) (begins : v ≠ charSpace) {verb : Text}
    {fields : List Text} (tokens : tokensFrom [] (v :: rest) = verb :: fields) :
    readCovered text (charColon :: h :: i :: charSpace :: v :: rest) = some { text, seq := BitVec.ofNat 8 n, verb, fields } := by
  have digits : readHex 2 (((charColon :: h :: i :: charSpace :: v :: rest).drop 1).take 2) = some n := read
  have after : (charColon :: h :: i :: charSpace :: v :: rest).drop 3 = charSpace :: v :: rest := rfl
  rw [readCovered, digits, after]
  dsimp only
  rw [if_pos ⟨rfl, begins⟩, tokens]

theorem readCovered_eq_none (colon : covered.head? = some charColon) (bad : ¬ HeadedLine covered) :
    readCovered text covered = none := by
  unfold readCovered
  split
  next n sp v rest number after =>
    refine if_neg ?_
    rintro ⟨rfl, begins⟩
    refine bad ?_
    match covered with
    | a :: h :: i :: tail =>
      obtain rfl : a = charColon := by simpa using colon
      obtain rfl : tail = charSpace :: v :: rest := after
      exact ⟨h, i, v, rest, rfl, Option.isSome_iff_exists.mpr ⟨n, number⟩, begins⟩
    | [] | [_] | [_, _] => cases after
  next => rfl

end covered

section check
variable {line : List RxByte} {covered : Text} {crc : Nat}

theorem checkLine_damaged (damaged : ∃ x ∈ line, x.damaged = true) : checkLine line = .error .check :=
  if_pos (List.any_eq_true.mpr damaged)

theorem checkLine_undamaged (whole : ¬ ∃ x ∈ line, x.damaged = true) :
    checkLine line = match splitLine (line.map RxByte.value) with
      | none => .error .form
      | some (covered, crc) =>
        if (crc16 covered).toNat ≠ crc then .error .check
        else match readCovered ((line.map RxByte.value).take ((line.map RxByte.value).length - 2)) covered with
          | none => .error .form
          | some r => .ok r :=
  if_neg fun any => whole (List.any_eq_true.mp any)

/-- A line that fails a check is discarded for the first it fails (R158). -/
theorem checkLine_fails {w : LineFault} (fails : FailsLine line w) : checkLine line = .error w := by
  obtain ⟨damaged, rfl⟩ | ⟨whole, shapeless, rfl⟩ | ⟨whole, covered, crc, shaped, wrong⟩ := fails
  · exact checkLine_damaged damaged
  · have none_split : splitLine (line.map RxByte.value) = none :=
      Option.eq_none_iff_forall_ne_some.mpr fun x split => shapeless x.1 x.2 (splitLine_eq_some.mp split)
    rw [checkLine_undamaged whole, none_split]
  · rw [checkLine_undamaged whole, splitLine_eq_some.mpr shaped]
    obtain ⟨bad, rfl⟩ | ⟨same, bad, rfl⟩ := wrong
    · exact if_pos bad
    · obtain ⟨-, -, -, colon, -, -⟩ := shaped
      exact (if_neg (not_not.mpr same)).trans (by rw [readCovered_eq_none colon bad])

end check

/-! ## Accepted spellings -/

theorem lineChar_of_printable {c : Byte} (h : printable c = true) : lineChar c = true := by
  rw [lineChar, h, Bool.or_true]

/-- The characters after the verb of an accepted spelling, with the spaces before the asterisk. -/
def spacedFields (gaps : List Nat) (fields : List Text) (last : Nat) : Text :=
  (gaps.zip fields).flatMap (fun g => List.replicate (g.1 + 1) charSpace ++ g.2) ++ List.replicate (last + 1) charSpace

theorem lineChar_spacedFields {gaps : List Nat} {fields : List Text} (last : Nat) (goods : ∀ f ∈ fields, goodToken f = true) :
    ∀ c ∈ spacedFields gaps fields last, lineChar c = true := by
  intro c mem
  simp only [spacedFields, List.mem_append, List.mem_flatMap, List.mem_replicate] at mem
  obtain ⟨⟨g, f⟩, pair, ⟨-, rfl⟩ | char⟩ | ⟨-, rfl⟩ := mem
  · rfl
  · exact lineChar_of_printable ((goodToken_iff.mp (goods f (List.of_mem_zip pair).2)).2 c char)
  · rfl

theorem getLast?_spacedFields (gaps : List Nat) (fields : List Text) (last : Nat) (front : Text) :
    (front ++ spacedFields gaps fields last).getLast? = some charSpace := by
  rw [spacedFields, List.replicate_succ', ← List.append_assoc, ← List.append_assoc]
  exact List.getLast?_concat ..

theorem map_value_lineChars (text : Text) : (lineChars text).map RxByte.value = text ++ [charCR, charLF] := by
  rw [lineChars, List.map_map]
  exact List.map_id' _

theorem undamaged_lineChars (text : Text) : ¬ ∃ x ∈ lineChars text, x.damaged = true := by
  rintro ⟨x, mem, damaged⟩
  obtain ⟨c, -, rfl⟩ := List.mem_map.mp mem
  cases damaged

/-- Every accepted spelling of a request is read back as it (R157, R158, R180). -/
theorem checkLine_spells {text verb : Text} {q : Byte} {fields : List Text} (spells : Spells text q verb fields) :
    checkLine (lineChars text) = .ok { text, seq := q, verb, fields } := by
  obtain ⟨h, i, gaps, last, crc, spelt, count, number, sum, good, goods⟩ := spells
  obtain ⟨v, vs, rfl⟩ : ∃ v vs, verb = v :: vs := List.exists_cons_of_ne_nil (goodToken_iff.mp good).1
  obtain ⟨-, printed⟩ := goodToken_iff.mp good
  have begins : v ≠ charSpace := ne_space_of_printable (printed v List.mem_cons_self)
  have digits : ∀ c ∈ [h, i], printable c = true :=
    printable_of_hexRun (Option.isSome_iff_exists.mpr ⟨_, (readHex_eq_some.mp number).2⟩)
  have parts : ∃ covered, covered = charColon :: h :: i :: charSpace :: v :: (vs ++ spacedFields gaps fields last) ∧
      text = covered ++ charStar :: crc ∧ readHex 4 crc = some (crc16 covered).toNat := by
    refine ⟨_, ?_, spelt, sum⟩
    simp [spacedFields]
  obtain ⟨covered, spelt_covered, spelt, sum⟩ := parts
  have shaped : ShapedLine ((lineChars text).map RxByte.value) covered (crc16 covered).toNat := by
    refine ⟨crc, by rw [map_value_lineChars, spelt], sum, by rw [spelt_covered]; rfl, ?_, List.all_eq_true.mpr fun c mem => ?_⟩
    · rw [spelt_covered]
      exact getLast?_spacedFields gaps fields last (charColon :: h :: i :: charSpace :: v :: vs)
    · rw [spelt_covered] at mem
      simp only [List.mem_cons, List.mem_append] at mem
      obtain rfl | rfl | rfl | rfl | rfl | verb | rest := mem
      · rfl
      · exact lineChar_of_printable (digits _ (by simp))
      · exact lineChar_of_printable (digits _ (by simp))
      · rfl
      · exact lineChar_of_printable (printed _ List.mem_cons_self)
      · exact lineChar_of_printable (printed _ (List.mem_cons_of_mem _ verb))
      · exact lineChar_spacedFields last goods c rest
  have tokens : tokensFrom [] (v :: (vs ++ spacedFields gaps fields last)) = (v :: vs) :: fields :=
    tokensFrom_fields last good goods count
  have taken : ((lineChars text).map RxByte.value).take (((lineChars text).map RxByte.value).length - 2) = text := by
    rw [map_value_lineChars]
    exact List.take_left' (by simp)
  rw [checkLine_undamaged (undamaged_lineChars text), splitLine_eq_some.mpr shaped]
  refine (if_neg (not_not.mpr rfl)).trans ?_
  rw [taken, spelt_covered, readCovered_headed number begins tokens, BitVec.ofNat_toNat, BitVec.setWidth_eq]

theorem spaced_once (fields : List Text) : ((List.replicate fields.length 0).zip fields).flatMap
    (fun g => List.replicate (g.1 + 1) charSpace ++ g.2) = fields.flatMap fun f => charSpace :: f := by
  induction fields with
  | nil => rfl
  | cons f fs ih => rw [List.length_cons, List.replicate_succ, List.zip_cons_cons, List.flatMap_cons, List.flatMap_cons, ih]; rfl

/-- The canonical spelling of a request is an accepted one (R157). -/
theorem requestText_spells {q : Byte} {verb : Text} {fields : List Text} (good : goodToken verb = true)
    (goods : ∀ f ∈ fields, goodToken f = true) : Spells (requestText q verb fields) q verb fields := by
  have digits : readHex 2 (hexDigits 2 q.toNat) = some q.toNat := readHex_hexDigits q.isLt
  have covered : [charColon, hexDigit (q.toNat / 16 % 16), hexDigit (q.toNat % 16), charSpace] ++ verb ++
      ((List.replicate fields.length 0).zip fields).flatMap (fun g => List.replicate (g.1 + 1) charSpace ++ g.2) ++
        List.replicate (0 + 1) charSpace = requestCovered q verb fields := by
    rw [spaced_once]
    simp [requestCovered, hexDigits]
  refine ⟨hexDigit (q.toNat / 16 % 16), hexDigit (q.toNat % 16), List.replicate fields.length 0, 0,
    hexDigits 4 (crc16 (requestCovered q verb fields)).toNat, ?_, List.length_replicate, digits, ?_, good, goods⟩
  · dsimp only
    rw [covered, requestText, List.append_assoc]
    rfl
  · dsimp only
    rw [covered]
    exact readHex_hexDigits (crc16 _).isLt

/-! ## Lines as commands -/

section sends
variable {s : State} {dt : Nat} {l : Lane} {q : Byte} {c : Instr} {text verb : Text} {fields : List Text}

theorem exec_of_isLine (line : IsLine c verb dt l q fields) : exec c s = requestArrives dt l q verb fields s := by
  obtain ⟨v, rfl, request⟩ | rfl := line
  · exact exec_of_isRequest request s
  · rfl

theorem LanePort.fresh_line {r : LanePort} (idle : r.assembling = []) (kept : r.dropping = false) :
    { r with assembling := [], dropping := false } = r := by
  obtain ⟨assembling, dropping, queue, sending, expected, stored⟩ := r
  subst idle kept
  rfl

/-- A line whose characters pass the checks is accepted where the port is not in the middle of another line (R158, R159). -/
theorem State.lineEnds_accepts {chars : List RxByte} {req : Request} (idle : (s.port l).assembling = [])
    (kept : (s.port l).dropping = false) (room : (s.port l).queue.length < 2) (checked : checkLine chars = .ok req) :
    s.lineEnds l chars = s.acceptLine l req := by
  have same : s.setPort l { s.port l with assembling := [], dropping := false } = s := by
    rw [LanePort.fresh_line idle kept, State.setPort, State.port, PerLane.set_get]
  have open_queue : (s.port l).full = false := decide_eq_false (Nat.not_le.mpr room)
  simp only [State.lineEnds, same, kept, open_queue, Bool.false_eq_true, if_false, idle, List.nil_append, checked]

theorem State.requestEnds_accepts {req : Request} (idle : (s.port l).assembling = [])
    (kept : (s.port l).dropping = false) (room : (s.port l).queue.length < 2) : s.requestEnds l req = s.acceptLine l req := by
  have open_queue : (s.port l).full = false := decide_eq_false (Nat.not_le.mpr room)
  rw [State.requestEnds, if_pos ⟨idle, kept⟩, open_queue, if_neg Bool.false_ne_true]

/-- A line that comes as its own command or as its characters is accepted where the port has room for it (R158, R159). -/
theorem exec_sends (awake : s.inReset = false) (idle : (s.port l).assembling = []) (kept : (s.port l).dropping = false)
    (room : (s.port l).queue.length < 2) (sends : Sends c text verb dt l q fields) :
    exec c s = .next ((s.advance dt).acceptLine l { text, seq := q, verb, fields }) := by
  obtain ⟨rfl, line⟩ | ⟨spells, rfl⟩ := sends
  · rw [exec_of_isLine line, requestArrives, happens_next _ _ _ awake]
    exact congrArg _ (State.requestEnds_accepts idle kept room)
  · rw [exec_lineEnd dt l awake]
    exact congrArg _ (State.lineEnds_accepts idle kept room (checkLine_spells spells))

/-- A line taken at its own LF (R159, R160). -/
theorem exec_sends_take (listens : s.Listens l) (sends : Sends c text verb dt l q fields) :
    exec c s = .next ((s.advance dt).take l { text, seq := q, verb, fields }) := by
  obtain ⟨awake, queue, sending, idle, kept⟩ := listens
  rw [exec_sends awake idle kept (by rw [queue]; decide) sends, State.acceptLine]
  exact congrArg _ (if_pos ⟨queue, sending⟩)

end sends

/-! ## The sequence decision -/

section take
variable {s : State} {dt : Nat} {l : Lane} {req : Request}

theorem State.heard_eq : (s.advance dt).noteTaken l = s.heard dt l := State.noteTaken_eq ..

/-- What the take of a line does by the sequence decision (R160). -/
theorem State.take_eq : (s.advance dt).take l req = match (s.port l).decideSeq req with
    | .goesOn => ((s.advance dt).noteTaken l).execute l req
    | .resend body => (s.heard dt l).replied l req.seq body
    | .outOfSequence => (s.heard dt l).replied l req.seq (s.port l).noSeq := by
  simp only [State.take, State.noteTaken_port, State.advance_port]
  rw [State.heard_eq]
  rfl

variable {r : LanePort}

/-- A line that does not resynchronise is decided by its number (R161). -/
theorem LanePort.decideSeq_sequenced (sequenced : ∀ v, req.verb = verbText v → resynchronises v = false) :
    r.decideSeq req = match r.expected with
      | none => .outOfSequence
      | some e =>
        if req.seq = e then .goesOn
        else match r.stored with
          | some m => if req.seq = e - 1#8 ∧ m.line = req.text then .resend m.body else .outOfSequence
          | none => .outOfSequence := by
  have decided : ((readVerb req.verb).map resynchronises).getD false = false := by
    cases read : readVerb req.verb with
    | none => rfl
    | some v =>
      have spelt : verbText v = req.verb := by simpa using List.find?_some read
      exact sequenced v spelt.symm
  rw [LanePort.decideSeq, decided]
  exact if_neg Bool.false_ne_true

end take

/-- Settles O44: the line is taken, and what its port expects and has stored decides. -/
theorem sequenceDecision : Obligations.SequenceDecision := by
  intro s dt l q c text verb fields listens sends sequenced
  have taken := exec_sends_take listens sends
  have decided := LanePort.decideSeq_sequenced (r := s.port l) (req := { text, seq := q, verb, fields }) sequenced
  refine ⟨fun unset => ?none, fun body expected stored => ?again, fun e expected other wrong => ?wrong⟩
  case none =>
    rw [unset] at decided
    rw [taken, State.take_eq, decided, LanePort.noSeq, unset]
    rfl
  case again =>
    have before : q = q + 1#8 - 1#8 := by bv_omega
    have past : ¬ q = q + 1#8 := by bv_omega
    rw [expected, stored] at decided
    dsimp only at decided
    rw [if_neg past, if_pos ⟨before, rfl⟩] at decided
    rw [taken, State.take_eq, decided]
  case wrong =>
    have out : (s.port l).decideSeq { text, seq := q, verb, fields } = .outOfSequence := by
      rw [decided, expected]
      refine (if_neg (Ne.symm other)).trans ?_
      cases stored : (s.port l).stored with
      | none => rfl
      | some m =>
        refine if_neg ?_
        rintro ⟨number, line⟩
        obtain far | unlike := wrong
        · have before : q = e - 1#8 := number
          exact far (by rw [before]; bv_omega)
        · exact unlike m stored line
    rw [taken, State.take_eq, out, LanePort.noSeq, expected]
    rfl

/-- Settles O46: the checks give the request back, and what a line does depends on its characters only in what it stores. -/
theorem lineEndIsRequest : Obligations.LineEndIsRequest := by
  refine ⟨fun s dt l q c verb fields good line => ?canonical, fun s dt l q c text verb fields spells line => ?spelt⟩
  case canonical =>
    simp only [goodRequest, Bool.and_eq_true, List.all_eq_true] at good
    obtain ⟨⟨verb_good, fields_good⟩, -⟩ := good
    have checked : checkLine (requestChars (mkRequest q verb fields)) = .ok (mkRequest q verb fields) :=
      checkLine_spells (requestText_spells verb_good fields_good)
    refine ⟨checked, ?_⟩
    rw [exec_of_isLine line]
    change happens dt s (·.lineEnds l (requestChars (mkRequest q verb fields))) = happens dt s (·.requestEnds l (mkRequest q verb fields))
    refine congrArg (happens dt s) (funext fun u => ?_)
    unfold State.requestEnds
    split
    next fresh =>
      have same : u.setPort l { u.port l with assembling := [], dropping := false } = u := by
        rw [LanePort.fresh_line fresh.1 fresh.2, State.setPort, State.port, PerLane.set_get]
      simp only [State.lineEnds, same, fresh.1, fresh.2, List.nil_append, checked, Bool.false_eq_true, if_false]
    next => rfl
  case spelt =>
    refine ⟨checkLine_spells spells, fun listens goesOn => ?_⟩
    have goes (line : Text) : (s.port l).decideSeq { text := line, seq := q, verb, fields } = .goesOn := by
      obtain expected | ⟨v, rfl, resync⟩ := goesOn
      · simp [LanePort.decideSeq, expected]
      · simp [LanePort.decideSeq, readVerb_verbText, resync]
    refine ⟨(dispatch l (mkRequest q verb fields) (s.taking dt l q)).1, (dispatch l (mkRequest q verb fields) (s.taking dt l q)).2,
      ?_, ?_⟩
    · rw [exec_sends_take listens (.inl ⟨rfl, line⟩), State.take_eq, goes]
      exact congrArg _ (State.execute_eq s dt l _)
    · rw [exec_sends_take listens (.inr ⟨spells, rfl⟩), State.take_eq, goes]
      exact congrArg _ (State.execute_eq s dt l _)

end Sys2Proof.Machine
end

section
/-! SAFE entry (R11, R66, R135): what it leaves of the lanes, the points and the log, and the events that bring it about at once. -/

namespace Sys2Proof.Machine

-- One proof after another: elaborated side by side, the proofs of the whole text need more memory than the check gives.
set_option Elab.async false

/-! ## Batches of records -/

/-- Between `s` and `t`, at one event, the records `es` have been appended. -/
structure Notes (es : List Event) (s t : State) : Prop where
  clock : t.clock = s.clock
  log : t.log = (es.foldl State.append s).log

section notes
variable {s t u : State} {es fs : List Event}

theorem foldl_append_clock (s : State) (es : List Event) : (es.foldl State.append s).clock = s.clock := by
  induction es generalizing s with
  | nil => rfl
  | cons e es ih => exact ih _

/-- What a batch of records leaves in the log depends on the log and the device time alone. -/
theorem foldl_append_log (es : List Event) (clock : t.clock = s.clock) (log : t.log = s.log) :
    (es.foldl State.append t).log = (es.foldl State.append s).log := by
  induction es generalizing s t with
  | nil => exact log
  | cons e es ih => exact ih clock (by simp only [State.append_log, State.now, clock, log])

theorem Notes.of_log (clock : t.clock = s.clock) (log : t.log = s.log) : Notes [] s t := ⟨clock, log⟩

theorem Notes.append (s : State) (e : Event) : Notes [e] s (s.append e) := ⟨rfl, rfl⟩

theorem Notes.append_of {e : Event} (clock : t.clock = s.clock) (log : t.log = s.log) : Notes [e] s (t.append e) :=
  ⟨clock, by simp only [List.foldl, State.append_log, State.now, clock, log]⟩

theorem Notes.trans (h : Notes es s t) (g : Notes fs t u) : Notes (es ++ fs) s u where
  clock := g.clock.trans h.clock
  log := by
    rw [g.log, List.foldl_append]
    exact foldl_append_log fs (by rw [h.clock, foldl_append_clock]) h.log

/-- A batch of records changes nothing but the log. -/
theorem foldl_append_eq (s : State) (es : List Event) :
    es.foldl State.append s = { s with log := (es.foldl State.append s).log } := by
  induction es generalizing s with
  | nil => rfl
  | cons e es ih =>
    rw [List.foldl_cons, ih]
    rfl

end notes

/-! ## Points -/

/-- The choices of the links change the state of a point and nothing else of it. -/
theorem Served.point {ks : List LinkNo} {s t : State} (h : Served ks s t) (p : PointNo) :
    t.point p = { s.point p with state := (t.point p).state } := by
  by_cases chosen : ∃ k ∈ ks, s.Chooses k (bankOf p)
  · obtain ⟨k, hk, chosen⟩ := chosen
    obtain ⟨e, -, -, -, point⟩ := h.started k hk _ chosen
    have here := point (slotOf p)
    rw [pointAt_bankOf_slotOf] at here
    rw [here]
    split <;> rfl
  · rw [h.points p fun k hk hc => chosen ⟨k, hk, hc⟩]

section servedPoint
variable {ks : List LinkNo} {s t : State} (h : Served ks s t) (p : PointNo)
include h

theorem Served.point_defn : (t.point p).defn = (s.point p).defn := by rw [h.point p]
theorem Served.point_target : (t.point p).target = (s.point p).target := by rw [h.point p]
theorem Served.point_applied : (t.point p).applied = (s.point p).applied := by rw [h.point p]
theorem Served.point_splits : (t.point p).splits = (s.point p).splits := by rw [h.point p]
theorem Served.point_changed : (t.point p).changed = (s.point p).changed := by rw [h.point p]

end servedPoint

theorem writeSafe_eq (r : PointRec) (member : Bool) : writeSafe r member = safeWritten (r, member) := by
  unfold writeSafe safeWritten changesTarget
  cases r.defn with
  | none => rfl
  | some d => by_cases same : r.target = some d.safe <;> simp [same]

theorem State.length_safeChanges (s : State) :
    s.safeChanges.length = (unsafeTargets fun p => (s.point p, s.slotPending p)).length := by
  unfold State.safeChanges unsafeTargets changesTarget
  refine congrArg List.length (List.filter_congr fun p _ => ?_)
  cases (s.point p).defn <;> simp

/-- The target that a write of the safe value leaves. -/
theorem safeWritten_target {r : PointRec} {member : Bool} {d : PointDef} (defn : r.defn = some d) (inert : r.state ≠ .inert)
    (undefined : r.state ≠ .undefined) : (safeWritten (r, member)).1.target = some d.safe := by
  unfold safeWritten
  simp only [defn]
  split
  · assumption
  · exact writeTarget_target _ inert undefined

/-! ## What the Apply Engine leaves -/

section banksPart
variable {s t : State} (h : BanksPart s t)
include h

theorem BanksPart.eq : t = { s with points := t.points, banks := t.banks, links := t.links } := h
theorem BanksPart.clock : t.clock = s.clock := by rw [h.eq]
theorem BanksPart.mode : t.mode = s.mode := by rw [h.eq]
theorem BanksPart.session : t.session = s.session := by rw [h.eq]
theorem BanksPart.idle : t.idle = s.idle := by rw [h.eq]
theorem BanksPart.settings : t.settings = s.settings := by rw [h.eq]
theorem BanksPart.log : t.log = s.log := by rw [h.eq]
theorem BanksPart.lanes : t.lanes = s.lanes := by rw [h.eq]
theorem BanksPart.lane (m : Lane) : t.lane m = s.lane m := congrArg (PerLane.get · m) h.lanes
theorem BanksPart.role (m : Lane) : t.role m = s.role m := congrArg LaneRec.role (h.lane m)
theorem BanksPart.round : t.round = s.round := by rw [h.eq]
theorem BanksPart.collecting : t.collecting = s.collecting := by rw [h.eq]
theorem BanksPart.summary : t.summary = s.summary := by rw [h.eq]

end banksPart

/-! ## Lanes -/

theorem LaneRec.unseat_absent (r : LaneRec) : { r.unseat with role := .absent } = r.away := rfl

section dismiss
variable (s : State) (l m : Lane)

theorem State.dismiss_lane : (s.dismiss l).lane m = if m = l ∧ s.role l = .probation then (s.lane l).away else s.lane m := by
  unfold State.dismiss
  by_cases probation : s.role l = .probation <;> simp [probation, LaneRec.unseat_absent, State.setLane_lane]

theorem State.dismiss_notes : Notes (if s.role l = .probation then [{ code := .left, lane := some l, cause := some .safe }] else [])
    s (s.dismiss l) := by
  unfold State.dismiss
  split
  · exact .append_of rfl rfl
  · exact .of_log rfl rfl

theorem State.dismiss_rest : s.dismiss l = { s with lanes := (s.dismiss l).lanes, log := (s.dismiss l).log } := by
  unfold State.dismiss
  split <;> rfl

/-- The PROBATION lanes go to ABSENT. -/
def State.dismissAll : State := ((s.dismiss .a).dismiss .b).dismiss .c

theorem State.dismissAll_lane : s.dismissAll.lane m = if s.role m = .probation then (s.lane m).away else s.lane m := by
  cases m <;> simp [State.dismissAll, State.dismiss_lane, State.role] <;> rfl

theorem State.dismissAll_notes : Notes ((Lane.all.filter fun m => s.role m = .probation).map fun m =>
    { code := .left, lane := some m, cause := some .safe }) s s.dismissAll := by
  have notes := ((s.dismiss_notes .a).trans ((s.dismiss .a).dismiss_notes .b)).trans
    (((s.dismiss .a).dismiss .b).dismiss_notes .c)
  have b : (s.dismiss .a).role .b = s.role .b := by simp [State.role, State.dismiss_lane]
  have c : ((s.dismiss .a).dismiss .b).role .c = s.role .c := by simp [State.role, State.dismiss_lane]
  rw [b, c] at notes
  rw [State.dismissAll]
  convert notes using 1
  by_cases ha : s.role .a = .probation <;> by_cases hb : s.role .b = .probation <;> by_cases hc : s.role .c = .probation <;>
    simp [Lane.all, ha, hb, hc]

theorem State.dismissAll_rest : s.dismissAll = { s with lanes := s.dismissAll.lanes, log := s.dismissAll.log } := by
  unfold State.dismissAll
  rw [State.dismiss_rest, State.dismiss_rest, State.dismiss_rest]

end dismiss

/-! ## SAFE entry -/

section safe
variable (s : State) (l : Lane) (why : Code)

/-- SAFE entry before the link controllers choose, part by part (R135). -/
theorem State.enterSafe_eq : s.enterSafe l why =
    ((({ s with mode := .safe, collecting := none }).dismissAll).updatePoints fun _ r member => safeWritten (r, member)).append
      { code := .safeEntered, lane := some l, round := some s.round, cause := some (.code why),
        values := [(unsafeTargets fun p => (s.point p, s.slotPending p)).length] } := by
  have rest := State.dismissAll_rest { s with mode := .safe, collecting := none }
  have points (p : PointNo) : (({ s with mode := .safe, collecting := none }).dismissAll).point p = s.point p := by
    rw [rest]; rfl
  have pending (p : PointNo) : (({ s with mode := .safe, collecting := none }).dismissAll).slotPending p = s.slotPending p := by
    rw [rest]; rfl
  have round : (({ s with mode := .safe, collecting := none }).dismissAll).round = s.round := by rw [rest]
  have unfolded : s.enterSafe l why =
      ((({ s with mode := .safe, collecting := none }).dismissAll).updatePoints fun _ r member => writeSafe r member).append
        { code := .safeEntered, lane := some l,
          round := some ((({ s with mode := .safe, collecting := none }).dismissAll).updatePoints fun _ r member =>
            writeSafe r member).round,
          cause := some (.code why), values := [(({ s with mode := .safe, collecting := none }).dismissAll).safeChanges.length] } := by
    unfold State.enterSafe State.dismissAll
    rfl
  rw [unfolded, State.length_safeChanges]
  simp only [points, pending, round, State.updatePoints_round, writeSafe_eq]

@[simp] theorem State.enterSafe_mode : (s.enterSafe l why).mode = .safe := by
  rw [State.enterSafe_eq, State.append_mode, State.updatePoints_mode, State.dismissAll_rest]

@[simp] theorem State.enterSafe_collecting : (s.enterSafe l why).collecting = none := by
  rw [State.enterSafe_eq, State.append_collecting, State.updatePoints_collecting, State.dismissAll_rest]

theorem State.enterSafe_lane (m : Lane) :
    (s.enterSafe l why).lane m = if s.role m = .probation then (s.lane m).away else s.lane m := by
  rw [State.enterSafe_eq, State.append_lane, State.updatePoints_lane, State.dismissAll_lane]
  rfl

theorem State.enterSafe_notes : Notes (s.safeRecords l why s.round (unsafeTargets fun p => (s.point p, s.slotPending p)).length) s
    (s.enterSafe l why) := by
  rw [State.enterSafe_eq]
  have began : Notes [] s { s with mode := .safe, collecting := none } := .of_log rfl rfl
  have written (u : State) : Notes [] u (u.updatePoints fun _ r member => safeWritten (r, member)) :=
    .of_log (by simp) (by simp)
  have notes := ((began.trans (State.dismissAll_notes _)).trans (written _)).trans (.append _ {
    code := .safeEntered, lane := some l, round := some s.round, cause := some (.code why),
    values := [(unsafeTargets fun p => (s.point p, s.slotPending p)).length] })
  rw [List.nil_append, List.append_nil] at notes
  exact notes

theorem State.enterSafe_point (p : PointNo) : ((s.enterSafe l why).point p, (s.enterSafe l why).slotPending p) =
    safeWritten (s.point p, s.slotPending p) := by
  have rest := State.dismissAll_rest { s with mode := .safe, collecting := none }
  rw [State.enterSafe_eq, State.append_point]
  have appended (u : State) (e : Event) : (u.append e).slotPending p = u.slotPending p := rfl
  rw [appended, State.updatePoints_point, State.updatePoints_slotPending, rest]
  rfl

theorem State.enterSafe_bank (b : BankNo) : (s.enterSafe l why).bank b =
    { s.bank b with pendingSet := ((s.enterSafe l why).bank b).pendingSet } := by
  have rest := State.dismissAll_rest { s with mode := .safe, collecting := none }
  rw [State.enterSafe_eq, State.append_bank, State.updatePoints_bank, rest]
  rfl

@[simp] theorem State.enterSafe_links : (s.enterSafe l why).links = s.links := by
  rw [State.enterSafe_eq, State.append_links, State.updatePoints_links, State.dismissAll_rest]

theorem State.enterSafe_rest : s.enterSafe l why = { s with
    mode := .safe, collecting := none, lanes := (s.enterSafe l why).lanes, log := (s.enterSafe l why).log,
    points := (s.enterSafe l why).points, banks := (s.enterSafe l why).banks } := by
  obtain ⟨lanes, log, rest⟩ : ∃ lanes log, ({ s with mode := .safe, collecting := none } : State).dismissAll =
      { s with mode := .safe, collecting := none, lanes, log } := ⟨_, _, State.dismissAll_rest _⟩
  rw [State.enterSafe_eq, rest]
  unfold State.updatePoints
  rfl

end safe

/-- What SAFE entry, and the choices of the links after it, can change. -/
theorem safePart_of_banksPart {s t u : State}
    (h : t = { s with mode := .safe, collecting := none, lanes := t.lanes, log := t.log, points := t.points, banks := t.banks })
    (g : BanksPart t u) : u = { s with
      mode := u.mode, collecting := u.collecting, lanes := u.lanes, log := u.log, points := u.points, banks := u.banks
      links := u.links } := by
  unfold BanksPart at g
  rw [g, h]

/-- SAFE entry, after which the link controllers choose. -/
theorem State.safeEntered (s : State) (l : Lane) (why : Code) : SafeEntered s l why (s.enterSafe l why).serveLinks := by
  have served := Served.serveLinks (s.enterSafe l why)
  have kept : BanksPart (s.enterSafe l why) (s.enterSafe l why).serveLinks := served.rest
  refine ⟨?mode, ?collecting, fun m => ?lane, ?log, ⟨_, served, ?_, ?_, ?_⟩, fun p d defn inert undefined => ?target, ?rest⟩
  case mode => exact kept.mode.trans (s.enterSafe_mode l why)
  case collecting => exact kept.collecting.trans (s.enterSafe_collecting l why)
  case lane =>
    exact (kept.lane m).trans (s.enterSafe_lane l why m)
  case log => exact kept.log.trans (s.enterSafe_notes l why).log
  case target =>
    obtain ⟨point, -⟩ := Prod.mk.inj (s.enterSafe_point l why p)
    exact (served.point_target p).trans ((congrArg PointRec.target point).trans (safeWritten_target defn inert undefined))
  case rest => exact safePart_of_banksPart (s.enterSafe_rest l why) served.rest
  · exact s.enterSafe_links l why
  · exact s.enterSafe_point l why
  · exact s.enterSafe_bank l why

end Sys2Proof.Machine
end

section
/-! What takes a lane out of its role (R55, R56, R60, R72, R73, R80): the lane record and the record of each, and the SAFE condition
where the lane is no voter. -/

namespace Sys2Proof.Machine

-- One proof after another: elaborated side by side, the proofs of the whole text need more memory than the check gives.
set_option Elab.async false

/-! ## Suspension -/

section suspend
variable (s : State) (l : Lane)

/-- A suspension for `why`, or the exclusion that takes its place (R55, R56). -/
theorem State.suspend_eq (why : SuspendCause) : s.suspend l why = s.suspending l why := by
  unfold State.suspend State.suspending State.gone State.goneRecord State.Suspends State.exclude
  by_cases limit : s.settings.susplimit ≤ (s.lane l).suspensions + 1
  · simp only [State.setLane_settings, limit, Nat.not_lt.mpr limit, if_true, if_false, State.setLane_lane_self,
      State.setLane_setLane]
    rfl
  · simp only [State.setLane_settings, limit, Nat.lt_of_not_le limit, if_true, if_false, State.setLane_lane_self,
      State.setLane_setLane]
    rfl

theorem State.suspending_role (why : SuspendCause) (m : Lane) : (s.suspending l why).role m =
    if m = l then (if s.Suspends l then .suspended else .excluded) else s.role m := by
  unfold State.suspending State.role State.lane
  rw [State.append_lanes, PerLane.get_set]
  by_cases own : m = l
  · rw [if_pos own, if_pos own]
    unfold State.gone
    by_cases suspends : s.Suspends l <;> simp only [suspends, if_true, if_false, LaneRec.out]
  · rw [if_neg own, if_neg own]

/-- A lane that is suspended or excluded is neither a voter nor HELD. -/
theorem State.suspending_out (why : SuspendCause) :
    ((s.suspending l why).role l).voting = false ∧ (s.suspending l why).role l ≠ .held := by
  rw [State.suspending_role, if_pos rfl]
  split <;> exact ⟨rfl, by decide⟩

theorem State.endingCode_suspending (why : SuspendCause) : (s.suspending l why).endingCode l = s.goneCode l := by
  unfold State.endingCode State.goneCode
  rw [State.suspending_role, if_pos rfl]
  by_cases suspends : s.Suspends l <;> simp only [suspends, if_true, if_false]

/-- A suspension counts on from the lane's own record: what else the record holds makes no difference. -/
theorem State.suspending_setLane (r : LaneRec) (why : SuspendCause) (out : r.out = (s.lane l).out) :
    (s.setLane l r).suspending l why = s.suspending l why := by
  have suspensions : r.suspensions = (s.lane l).suspensions :=
    show r.out.suspensions = (s.lane l).out.suspensions by rw [out]
  unfold State.suspending State.gone State.goneRecord State.Suspends
  simp only [State.setLane_lane_self, State.setLane_settings, out, suspensions, State.setLane_lanes, PerLane.set_set]
  rfl

/-- A strike charged by a finding, below STRIKES and at STRIKES (R51). -/
theorem State.strikeInBatch_eq : s.strikeInBatch l =
    if (s.lane l).strikes + 1 = s.settings.strikes then (s.suspending l .strikes).departedInBatch l
    else s.setLane l (s.lane l).struck := by
  unfold State.strikeInBatch
  simp only [State.setLane_lane_self, State.setLane_settings, State.suspend_eq,
    State.suspending_setLane s l (s.lane l).struck _ rfl]
  rfl

/-- The record of a probation result FAILED (R49). -/
def State.missRecord (n : Nat) (point : Option PointNo) : Event where
  code := .probationMiss
  lane := some l
  round := some n
  point := point
  values := [(s.lane l).probFails + 1]

/-- A probation result FAILED, below PROBFAIL and at PROBFAIL (R49). -/
theorem State.probationFailed_eq (n : Nat) (point : Option PointNo) : s.probationFailed n l point =
    if (s.lane l).probFails + 1 = s.settings.probfail then
      ((s.append (s.missRecord l n point)).suspending l .probation).withdraw l
    else (s.setLane l { s.lane l with probClean := 0, probFails := (s.lane l).probFails + 1 }).append
      (s.missRecord l n point) := by
  have suspended (e : Event) (x y : LaneRec) (hx : x.out = (s.lane l).out) (hy : y.out = x.out) :
      (((s.setLane l x).append e).setLane l y).suspending l .probation = (s.append e).suspending l .probation := by
    rw [State.suspending_setLane _ _ _ _ (by rw [State.append_lane, State.setLane_lane_self, hy]), ← State.append_setLane]
    exact State.suspending_setLane (s.append e) l x .probation hx
  unfold State.probationFailed
  simp only [State.append_settings, State.setLane_settings, State.append_lane, State.setLane_lane_self, State.suspend_eq]
  rw [suspended]
  · rfl
  · rfl
  · rfl

end suspend

/-! ## The SAFE condition -/

section safeCheck
variable {s : State} {l : Lane} {why : Code}

theorem State.keepsRun_iff : s.keepsRun = true ↔ ∃ m, (s.role m).voting = true ∨ s.role m = .held := by
  simp [State.keepsRun, Lane.mem_all]

theorem State.keepsRun_eq_false_iff : s.keepsRun = false ↔ ∀ m, (s.role m).voting = false ∧ s.role m ≠ .held := by
  rw [Bool.eq_false_iff, ne_eq, State.keepsRun_iff]
  push Not
  simp

theorem State.safeCheck_keeps {m : Lane} (stays : (s.role m).voting = true ∨ s.role m = .held) : s.safeCheck l why = s := by
  have keeps : s.keepsRun = true := State.keepsRun_iff.mpr ⟨m, stays⟩
  simp [State.safeCheck, keeps]

theorem State.safeCheck_last (run : s.mode = .run) (last : ∀ m, (s.role m).voting = false ∧ s.role m ≠ .held) :
    s.safeCheck l why = s.enterSafe l why :=
  if_pos ⟨run, State.keepsRun_eq_false_iff.mpr last⟩

end safeCheck

/-! ## The end of a hold -/

/-- The part after the expiry of the hold of lane `l`, before the SAFE condition (R80). -/
def State.holdOut (s : State) (l : Lane) : State :=
  (s.append {
    code := .holdExpired, lane := some l, round := some s.round, cause := (s.lane l).roleBefore.map .role
    values := [(s.lane l).carriedStrikes.getD 0] }).suspending l .hold

theorem State.holdExpires_eq {s : State} {l : Lane} (held : s.role l = .held) (due : s.holdOver l = true) :
    s.holdExpires l = ((s.holdOut l).safeCheck l (s.goneCode l)).serveLinks := by
  have code : (s.holdOut l).endingCode l = s.goneCode l := State.endingCode_suspending (s.append _) l _
  have role : (s.lane l).role = .held := held
  unfold State.holdExpires
  dsimp only
  rw [if_pos ⟨role, due⟩, State.suspend_eq, State.suspending_setLane (s.append _) l (s.lane l).endHold _ rfl]
  rw [← code]
  rfl

/-- Settles O32: the expiry is a suspension for the cause HOLD, and the SAFE condition looks at the other lanes alone. -/
theorem holdExpirySuspends : Obligations.HoldExpirySuspends := by
  refine ⟨fun s dt l awake unset => ?_, fun s dt l r n d awake held deadline before strikes => ?_⟩
  · rw [exec_holdExpiry dt l awake]
    have idle : ¬ ((s.lane l).role = .held ∧ (s.advance dt).holdOver l = true) := by
      rintro ⟨held, over_⟩
      obtain role | none := unset
      · exact role held
      · simp [State.holdOver, none] at over_
    exact congrArg _ (if_neg idle)
  intro expired
  have heldOut : (s.advance dt).holdOut l = expired := by
    unfold State.holdOut
    rw [State.advance_lane, before, strikes, Option.map_some, Option.getD_some]
    rfl
  have due_iff : (s.advance dt).holdOver l = true ↔ DueAt (s.advance dt).clock d :=
    by simp [State.holdOver_iff, deadline]
  have others (m : Lane) (other : m ≠ l) : expired.role m = s.role m := by
    rw [State.suspending_role, if_neg other]
    rfl
  have expires (due : DueAt (s.advance dt).clock d) : exec (.holdExpiry dt l) s =
      .next (expired.safeCheck l (s.goneCode l)).serveLinks := by
    rw [exec_holdExpiry dt l awake, State.holdExpires_eq (s := s.advance dt) held (due_iff.mpr due), heldOut]
    rfl
  refine ⟨fun due ⟨m, other, stays⟩ => ⟨_, expires due, ?_⟩, fun due run last => ⟨_, expires due, ?_⟩, fun early => ?_⟩
  · rw [State.safeCheck_keeps (m := m) (by rwa [others m other])]
    exact .serveLinks expired
  · rw [State.safeCheck_last (s := expired) run fun m => ?_]
    · exact expired.safeEntered l _
    by_cases own : m = l
    · rw [own]
      exact State.suspending_out _ _ _
    · rw [others m own]
      exact last m own
  · rw [exec_holdExpiry dt l awake]
    exact congrArg _ (if_neg fun h => early (due_iff.mp h.2))

end Sys2Proof.Machine
end

section
/-! The findings batch of a close (R36 to R38, R48 to R52, R63, R64, R66): what each finding does to its lane, what passes between the
findings, and how the batch ends. -/

namespace Sys2Proof.Machine

-- One proof after another: elaborated side by side, the proofs of the whole text need more memory than the check gives.
set_option Elab.async false

/-! ## Findings, lane by lane -/

/-- The lane a finding is about. -/
def Finding.lane : Finding → Lane
  | .late l | .dissent l _ _ | .clean l | .probClean l | .probFailed l _ => l

/-- The lane is in a role that the finding concerns (R50). -/
def Finding.Fits (b : State) : Finding → Prop
  | .late l | .dissent l _ _ | .clean l => (b.role l).voting = true
  | .probClean l | .probFailed l _ => b.role l = .probation

/-- The record of its lane that a finding leaves, given the state in which the batch begins. -/
def State.judged (b : State) : Finding → LaneRec
  | .late l | .dissent l _ _ => if (b.lane l).strikes + 1 = b.settings.strikes then b.gone l else (b.lane l).struck
  | .clean l => (b.lane l).cleanRound b.settings.decay
  | .probClean l =>
    if (b.lane l).probClean + 1 = b.settings.probation then
      { b.lane l with role := .standby, probClean := 0, probFails := 0, strikes := 0, streak := 0 }
    else { b.lane l with probClean := (b.lane l).probClean + 1 }
  | .probFailed l _ =>
    if (b.lane l).probFails + 1 = b.settings.probfail then b.gone l
    else { b.lane l with probClean := 0, probFails := (b.lane l).probFails + 1 }

/-- The records of a finding of the close of round `n`. -/
def State.findingRecords (n : Nat) (b : State) : Finding → List Event
  | .late l => { code := .late, lane := some l, round := some n, values := [(b.lane l).strikes + 1] } :: b.strikeOut l
  | .dissent l p k =>
    { code := .dissent, lane := some l, round := some n, point := some p, values := [k, (b.lane l).strikes + 1] } :: b.strikeOut l
  | .clean _ => []
  | .probClean l =>
    if (b.lane l).probClean + 1 = b.settings.probation then [{ code := .qualified, lane := some l, round := some n }] else []
  | .probFailed l p =>
    { code := .probationMiss, lane := some l, round := some n, point := p, values := [(b.lane l).probFails + 1] } ::
      if (b.lane l).probFails + 1 = b.settings.probfail then [b.goneRecord l .probation] else []

/-- The records of a finding name its lane; none of them is a CONTROL record or one of SAFE entry. -/
theorem State.of_mem_findingRecords {n : Nat} {b : State} {f : Finding} {e : Event} (h : e ∈ b.findingRecords n f) :
    e.lane = some f.lane ∧ e.code ≠ .control ∧ e.code ≠ .left ∧ e.code ≠ .safeEntered := by
  have gone (l : Lane) (why : SuspendCause) : (b.goneRecord l why).lane = some l ∧ (b.goneRecord l why).code ≠ .control ∧
      (b.goneRecord l why).code ≠ .left ∧ (b.goneRecord l why).code ≠ .safeEntered := by
    unfold State.goneRecord
    split <;> simp
  have struck (l : Lane) (h : e ∈ b.strikeOut l) :
      e.lane = some l ∧ e.code ≠ .control ∧ e.code ≠ .left ∧ e.code ≠ .safeEntered := by
    unfold State.strikeOut at h
    split at h
    · rw [List.mem_singleton.mp h]
      exact gone l .strikes
    · cases h
  cases f with
  | late l =>
    obtain rfl | h := List.mem_cons.mp h
    · simp [Finding.lane]
    · exact struck l h
  | dissent l p k =>
    obtain rfl | h := List.mem_cons.mp h
    · simp [Finding.lane]
    · exact struck l h
  | clean l => cases h
  | probClean l =>
    rw [State.findingRecords] at h
    split at h
    · rw [List.mem_singleton.mp h]
      simp [Finding.lane]
    · cases h
  | probFailed l p =>
    obtain rfl | h := List.mem_cons.mp h
    · simp [Finding.lane]
    · split at h
      · rw [List.mem_singleton.mp h]
        exact gone l .probation
      · cases h

/-! ## Control may pass to a lane -/

/-- The lane record is `x`, but for control that may have passed to a STANDBY lane (R63). -/
def Promoted (x y : LaneRec) : Prop := y = x ∨ x.role = .standby ∧ y = { x with role := .inControl }

section promoted
variable {x y z : LaneRec}

theorem Promoted.refl (x : LaneRec) : Promoted x x := .inl rfl

theorem Promoted.eq (h : Promoted x y) : y = { x with role := y.role } := by
  obtain rfl | ⟨-, rfl⟩ := h <;> rfl

theorem Promoted.role (h : Promoted x y) : y.role = x.role ∨ y.role = .inControl := by
  obtain rfl | ⟨-, rfl⟩ := h
  · exact .inl rfl
  · exact .inr rfl

theorem Promoted.voting (h : Promoted x y) : y.role.voting = x.role.voting := by
  obtain rfl | ⟨standby, rfl⟩ := h
  · rfl
  · rw [standby]; rfl

theorem Promoted.role_iff (h : Promoted x y) {r : Role} (voting : r.voting = false) : y.role = r ↔ x.role = r := by
  obtain rfl | ⟨standby, rfl⟩ := h
  · rfl
  · rw [standby]
    constructor <;> rintro rfl <;> cases voting

theorem Promoted.eq_of_role (h : Promoted x y) (role : x.role ≠ .standby) : y = x := by
  obtain rfl | ⟨standby, -⟩ := h
  · rfl
  · exact absurd standby role

theorem Promoted.eq_of_probation (h : Promoted x y) (role : x.role = .probation) : y = x :=
  h.eq_of_role (by rw [role]; decide)

theorem Promoted.out (h : Promoted x y) : y.out = x.out := by
  obtain rfl | ⟨-, rfl⟩ := h <;> rfl

theorem Promoted.struck (h : Promoted x y) : Promoted x.struck y.struck := by
  obtain rfl | ⟨standby, rfl⟩ := h
  · exact .refl _
  · exact .inr ⟨standby, rfl⟩

theorem LaneRec.cleanRound_role (x : LaneRec) (decay : Nat) : (x.cleanRound decay).role = x.role := by
  unfold LaneRec.cleanRound
  split <;> rfl

theorem Promoted.cleanRound (h : Promoted x y) (decay : Nat) : Promoted (x.cleanRound decay) (y.cleanRound decay) := by
  obtain rfl | ⟨standby, rfl⟩ := h
  · exact .refl _
  · refine .inr ⟨by rw [LaneRec.cleanRound_role, standby], ?_⟩
    unfold LaneRec.cleanRound
    dsimp only
    split <;> rfl

/-- A lane takes control at most once. -/
theorem Promoted.takes (h : Promoted x y) (role : y.role = .standby) : Promoted x { y with role := .inControl } := by
  obtain rfl | ⟨-, rfl⟩ := h
  · exact .inr ⟨role, rfl⟩
  · cases role

end promoted

section gone
variable {s t : State} {l : Lane}

/-- A suspension counts on from the lane's count, the settings and the device time alone. -/
theorem State.gone_congr (out : (t.lane l).out = (s.lane l).out) (settings : t.settings = s.settings) (clock : t.clock = s.clock) :
    t.gone l = s.gone l := by
  have suspensions : (t.lane l).suspensions = (s.lane l).suspensions :=
    show (t.lane l).out.suspensions = (s.lane l).out.suspensions by rw [out]
  unfold State.gone State.Suspends State.deadline State.now
  simp only [out, suspensions, settings, clock]

theorem State.goneRecord_congr (out : (t.lane l).out = (s.lane l).out) (settings : t.settings = s.settings) (why : SuspendCause) :
    t.goneRecord l why = s.goneRecord l why := by
  have suspensions : (t.lane l).suspensions = (s.lane l).suspensions :=
    show (t.lane l).out.suspensions = (s.lane l).out.suspensions by rw [out]
  unfold State.goneRecord State.Suspends
  simp only [suspensions, settings]

theorem State.gone_role : (s.gone l).role = if s.Suspends l then .suspended else .excluded := by
  unfold State.gone
  by_cases suspends : s.Suspends l <;> simp only [suspends, if_true, if_false, LaneRec.out]

theorem State.gone_voting : (s.gone l).role.voting = false := by
  rw [State.gone_role]
  split <;> rfl

end gone

/-! ## Control -/

section heir
variable {s : State} {n : Lane}

theorem State.heir_eq_none_of_holder (h : s.role n = .inControl) : s.heir = none := if_pos ⟨n, Lane.mem_all n, h⟩

theorem State.heir_vacant (h : s.heir = some n) : ∀ m, s.role m ≠ .inControl := fun m hm => by
  rw [State.heir_eq_none_of_holder hm] at h
  cases h

theorem State.heir_standby (h : s.heir = some n) : s.role n = .standby := by
  have vacant := State.heir_vacant h
  rw [State.heir, if_neg (by rintro ⟨m, -, hm⟩; exact vacant m hm)] at h
  simpa using List.find?_some h

/-- While some lane votes, some lane is IN_CONTROL after the control assignment: the one before it, or the heir. -/
theorem State.heir_isSome_of_voting {m : Lane} (voting : (s.role m).voting = true) :
    (∃ n, s.role n = .inControl) ∨ ∃ n, s.heir = some n := by
  by_cases held : ∃ n, s.role n = .inControl
  · exact .inl held
  · right
    have vacant : ¬ ∃ n ∈ Lane.all, s.role n = .inControl := fun ⟨n, _, hn⟩ => held ⟨n, hn⟩
    have standby : s.role m = .standby := by
      cases hm : s.role m <;> simp_all [Role.voting]
    rw [State.heir, if_neg vacant]
    exact Option.isSome_iff_exists.mp (List.find?_isSome.mpr ⟨m, Lane.mem_all m, by simpa using standby⟩)

/-- Control passes to the heir, with its record (R63). -/
theorem State.assignControl_eq (s : State) : s.assignControl = match s.heir with
    | none => s
    | some n => (s.setLane n { s.lane n with role := .inControl }).append
        { code := .control, lane := some n, round := some s.round, cause := some .assign } := by
  unfold State.assignControl State.heir
  cases holder : s.control with
  | some m =>
    have role : s.role m = .inControl := by simpa using List.find?_some (show Lane.all.find? _ = some m from holder)
    rw [if_pos ⟨m, Lane.mem_all m, role⟩]
  | none =>
    have vacant := State.control_eq_none_iff.mp holder
    rw [if_neg (by rintro ⟨m, -, hm⟩; exact vacant m hm)]
    cases Lane.all.find? fun l => s.role l = .standby <;> rfl

end heir

/-! ## The batch under way -/

/-- The findings `done` of the close of round `n` have taken effect, one after another, since the batch began in `b`; the records `es`
have been made, and the part is left as `u`. -/
structure Batch (n : Nat) (b : State) (done : List Finding) (es : List Event) (u : State) : Prop where
  notes : Notes es b u
  rest : u = { b with lanes := u.lanes, log := u.log }
  judged : ∀ f ∈ done, Promoted (b.judged f) (u.lane f.lane)
  waiting : ∀ l, (∀ f ∈ done, f.lane ≠ l) → Promoted (b.lane l) (u.lane l)
  records : es.filter (fun e => e.code ≠ .control) = done.flatMap (b.findingRecords n)
  control : ∀ e ∈ es, e.code = .control → e.lane ≠ none ∧
    e = { code := .control, lane := e.lane, round := some b.round, cause := some .assign }
  holder : ∀ m, u.role m = .inControl → b.role m = .inControl ∨
    (es.filter fun e => e.code = .control).getLast?.bind Event.lane = some m

section batch
variable {n : Nat} {b u v : State} {done : List Finding} {es : List Event} {f : Finding}

theorem Batch.begin (n : Nat) (b : State) : Batch n b [] [] b where
  notes := .of_log rfl rfl
  rest := rfl
  judged _ h := nomatch h
  waiting _ _ := .refl _
  records := rfl
  control _ h := nomatch h
  holder _ h := .inl h

theorem Batch.mode (h : Batch n b done es u) : u.mode = b.mode := by rw [h.rest]
theorem Batch.collecting (h : Batch n b done es u) : u.collecting = b.collecting := by rw [h.rest]
theorem Batch.settings (h : Batch n b done es u) : u.settings = b.settings := by rw [h.rest]
theorem Batch.clock (h : Batch n b done es u) : u.clock = b.clock := by rw [h.rest]
theorem Batch.round (h : Batch n b done es u) : u.round = b.round := by rw [h.rest]

/-- The next finding gives its lane the record `r` and makes its records. -/
theorem Batch.judge (h : Batch n b done es u) (fresh : ∀ g ∈ done, g.lane ≠ f.lane) {r : LaneRec} {fs : List Event}
    (hfs : b.findingRecords n f = fs)
    (v_eq : v = { u with lanes := u.lanes.set f.lane r, log := v.log }) (notes : Notes fs u v)
    (promoted : Promoted (b.judged f) r) (control : r.role = .inControl → u.role f.lane = .inControl) :
    Batch n b (done ++ [f]) (es ++ fs) v := by
  have lane (m : Lane) : v.lane m = if m = f.lane then r else u.lane m := by
    rw [v_eq]
    exact PerLane.get_set ..
  have no_control {e : Event} (he : e ∈ fs) : e.code ≠ .control := by
    rw [← hfs] at he
    obtain ⟨-, no_control, -⟩ := State.of_mem_findingRecords he
    exact no_control
  have none_of : fs.filter (fun e => decide (e.code = .control)) = [] :=
    List.filter_eq_nil_iff.mpr fun e he => by simpa using no_control he
  have all_of : fs.filter (fun e => decide (e.code ≠ .control)) = fs :=
    List.filter_eq_self.mpr fun e he => by simpa using no_control he
  refine ⟨h.notes.trans notes, ?rest, fun g hg => ?judged, fun m hm => ?waiting, ?records, fun e he code => ?control, fun m hm => ?holder⟩
  case rest =>
    rw [v_eq, h.rest]
  case judged =>
    rw [lane]
    obtain hg | hg := List.mem_append.mp hg
    · rw [if_neg (fresh g hg)]
      exact h.judged g hg
    · rw [List.mem_singleton.mp hg, if_pos rfl]
      exact promoted
  case waiting =>
    rw [lane, if_neg fun own => hm f (by simp) own.symm]
    exact h.waiting m fun g hg => hm g (List.mem_append_left _ hg)
  case records =>
    rw [List.filter_append, h.records, all_of, List.flatMap_append, List.flatMap_singleton, hfs]
  case control =>
    obtain he | he := List.mem_append.mp he
    · exact h.control e he code
    · exact absurd code (no_control he)
  case holder =>
    rw [List.filter_append, none_of, List.append_nil]
    refine h.holder m ?_
    by_cases own : m = f.lane
    · subst own
      refine control ?_
      rwa [State.role, lane, if_pos rfl] at hm
    · rwa [State.role, lane, if_neg own] at hm

/-- A vacant control passes to its heir between two findings. -/
theorem Batch.assign (h : Batch n b done es u) : ∃ cs, Batch n b done (es ++ cs) u.assignControl ∧
    (u.heir = none → cs = [] ∧ u.assignControl = u) := by
  rw [State.assignControl_eq]
  cases heir : u.heir with
  | none => exact ⟨[], by rwa [List.append_nil], fun _ => ⟨rfl, rfl⟩⟩
  | some m =>
    have standby := State.heir_standby heir
    have vacant := State.heir_vacant heir
    have lane (k : Lane) : (u.setLane m { u.lane m with role := .inControl }).lane k =
        if k = m then { u.lane m with role := .inControl } else u.lane k := u.setLane_lane ..
    have taken {x : LaneRec} {k : Lane} (before : Promoted x (u.lane k)) :
        Promoted x ((u.setLane m { u.lane m with role := .inControl }).lane k) := by
      rw [lane]
      split
      next own =>
        subst own
        exact before.takes standby
      · exact before
    refine ⟨[{ code := .control, lane := some m, round := some u.round, cause := some .assign }],
      ⟨h.notes.trans (.append_of (s := u) rfl rfl), ?rest, fun g hg => taken (h.judged g hg), fun k hk => taken (h.waiting k hk),
        ?records, fun e he code => ?control, fun k hk => .inr ?holder⟩, nofun⟩
    case rest =>
      rw [h.rest]
      rfl
    case records =>
      rw [List.filter_append, h.records]
      simp
    case control =>
      obtain he | he := List.mem_append.mp he
      · exact h.control e he code
      · rw [List.mem_singleton.mp he, h.round]
        exact ⟨nofun, rfl⟩
    case holder =>
      have own : k = m := by
        by_contra other
        refine vacant k ?_
        rwa [State.append_role, State.role, lane, if_neg other] at hk
      simp [List.filter_append, own]

end batch

end Sys2Proof.Machine
end

section
/-! A findings batch from one finding to the next, and its end (R50 to R52, R64, R66). -/

namespace Sys2Proof.Machine

-- One proof after another: elaborated side by side, the proofs of the whole text need more memory than the check gives.
set_option Elab.async false

/-! ## Between two findings -/

/-- The new round of a close is empty: nothing is withdrawn from it (R64). -/
theorem State.withdraw_of_empty {s : State} (l : Lane) (collects : s.collecting = some .empty) : s.withdraw l = s := by
  have empty : Collecting.empty.withdraw l = Collecting.empty := by cases l <;> rfl
  unfold State.withdraw
  rw [collects, Option.map_some, empty, ← collects]

theorem State.assignControl_promoted (s : State) (m : Lane) : Promoted (s.lane m) (s.assignControl.lane m) := by
  rw [State.assignControl_eq]
  cases heir : s.heir with
  | none => exact .refl _
  | some n =>
    have lane : ((s.setLane n { s.lane n with role := .inControl }).append
        { code := .control, lane := some n, round := some s.round, cause := some .assign }).lane m =
          if m = n then { s.lane n with role := .inControl } else s.lane m := s.setLane_lane ..
    rw [lane]
    split
    next own =>
      subst own
      exact .inr ⟨State.heir_standby heir, rfl⟩
    · exact .refl _

/-- The control assignment makes no voter and no HELD lane, and unmakes none. -/
theorem State.assignControl_stays (s : State) (m : Lane) :
    ((s.assignControl.role m).voting = true ∨ s.assignControl.role m = .held) ↔ ((s.role m).voting = true ∨ s.role m = .held) := by
  have promoted := s.assignControl_promoted m
  have held : s.assignControl.role m = .held ↔ s.role m = .held := promoted.role_iff rfl
  have voting : (s.assignControl.role m).voting = (s.role m).voting := promoted.voting
  rw [voting, held]

theorem State.heir_of_not_keepsRun {s : State} (last : s.keepsRun = false) : s.heir = none := by
  by_contra some_heir
  obtain ⟨n, heir⟩ := Option.ne_none_iff_exists'.mp some_heir
  have standby := State.heir_standby heir
  have out := State.keepsRun_eq_false_iff.mp last n
  rw [standby] at out
  exact absurd out.1 (by decide)

/-! ## One finding -/

/-- The findings `done` have taken effect since the batch began in `b`, leaving the part as `t`: in RUN, or in SAFE entered with the
last voter's suspension. -/
def Batched (n : Nat) (b : State) (done : List Finding) (es : List Event) (t : State) : Prop :=
  ∃ v, Batch n b done es v ∧ (v.keepsRun = true ∧ t = v ∨
    v.keepsRun = false ∧ ∃ l, (b.role l).voting = true ∧ es.getLast? = some (b.goneRecord l .strikes) ∧
      t = v.enterSafe l (b.goneCode l))

section finding
variable {n : Nat} {b u : State} {done : List Finding} {es : List Event} {f : Finding}

/-- The batch after a finding whose effect leaves some lane that keeps the part in RUN. -/
theorem Batch.batched (h : Batch n b done es u) (keeps : u.keepsRun = true) : Batched n b done es u := ⟨u, h, .inl ⟨keeps, rfl⟩⟩

theorem Batch.promoted (h : Batch n b done es u) (fresh : ∀ g ∈ done, g.lane ≠ f.lane) :
    Promoted (b.lane f.lane) (u.lane f.lane) := h.waiting _ fresh

/-- What takes a lane other than the one of the finding past it. -/
theorem keepsRun_of_judged {v : State} {l : Lane} (keeps : u.keepsRun = true) (out : (u.role l).voting = false ∧ u.role l ≠ .held)
    (others : ∀ m, m ≠ l → v.role m = u.role m) : v.keepsRun = true := by
  obtain ⟨m, stays⟩ := State.keepsRun_iff.mp keeps
  have other : m ≠ l := by
    rintro rfl
    obtain voting | held := stays
    · rw [out.1] at voting
      cases voting
    · exact out.2 held
  exact State.keepsRun_iff.mpr ⟨m, by rwa [others m other]⟩

/-- A finding that suspends its lane, with its own record and that of the suspension. -/
theorem Batch.suspended (h : Batch n b done es u) (fresh : ∀ g ∈ done, g.lane ≠ f.lane) {e : Event} {why : SuspendCause}
    (records : b.findingRecords n f = [e, b.goneRecord f.lane why]) (judged : b.judged f = b.gone f.lane) :
    Batch n b (done ++ [f]) (es ++ [e, b.goneRecord f.lane why]) ((u.append e).suspending f.lane why) := by
  have promoted := h.promoted fresh
  have gone : (u.append e).gone f.lane = b.gone f.lane := State.gone_congr promoted.out h.settings h.clock
  have goneRecord : (u.append e).goneRecord f.lane why = b.goneRecord f.lane why :=
    State.goneRecord_congr promoted.out h.settings why
  rw [State.suspending, gone, goneRecord]
  refine h.judge fresh records rfl ((Notes.append u e).trans (.append_of rfl rfl)) (judged ▸ .refl _) fun control => ?_
  have unvoting := State.gone_voting (s := b) (l := f.lane)
  rw [control] at unvoting
  cases unvoting

/-- A strike in a batch is counted, or suspends the lane, whose departure passes a vacant control or enters SAFE (R51, R52, R64). -/
theorem Batch.strike (h : Batch n b done es u) (run : b.mode = .run) (collects : b.collecting = some .empty)
    (fresh : ∀ g ∈ done, g.lane ≠ f.lane) (voting : (b.role f.lane).voting = true) (e : Event)
    (records : b.findingRecords n f = e :: b.strikeOut f.lane)
    (judged : b.judged f = if (b.lane f.lane).strikes + 1 = b.settings.strikes then b.gone f.lane else (b.lane f.lane).struck) :
    ∃ new, Batched n b (done ++ [f]) (es ++ new) ((u.append e).strikeInBatch f.lane) := by
  have promoted := h.promoted fresh
  have strikes : (u.lane f.lane).strikes = (b.lane f.lane).strikes := by rw [promoted.eq]
  rw [State.strikeInBatch_eq, State.append_lane, State.append_settings, strikes, h.settings]
  by_cases limit : (b.lane f.lane).strikes + 1 = b.settings.strikes
  · rw [if_pos limit] at judged ⊢
    rw [State.strikeOut, if_pos limit] at records
    have after := h.suspended fresh records judged
    have code : ((u.append e).suspending f.lane .strikes).endingCode f.lane = b.goneCode f.lane := by
      have suspensions : (u.lane f.lane).suspensions = (b.lane f.lane).suspensions := by rw [promoted.eq]
      rw [State.endingCode_suspending]
      simp only [State.goneCode, State.Suspends, State.append_lane, State.append_settings, suspensions, h.settings]
    generalize (u.append e).suspending f.lane .strikes = v at after code ⊢
    rw [State.departedInBatch, State.withdraw_of_empty _ (after.collecting.trans collects), code]
    obtain ⟨cs, assigned, none_passes⟩ := after.assign
    cases keeps : v.keepsRun with
    | true =>
      obtain ⟨m, stays⟩ := State.keepsRun_iff.mp keeps
      have stays := (v.assignControl_stays m).mpr stays
      refine ⟨_, _, by rw [← List.append_assoc]; exact assigned, .inl ⟨State.keepsRun_iff.mpr ⟨m, stays⟩, ?_⟩⟩
      exact State.safeCheck_keeps stays
    | false =>
      obtain ⟨-, same⟩ := none_passes (State.heir_of_not_keepsRun keeps)
      refine ⟨_, _, after, .inr ⟨keeps, f.lane, voting, by simp, ?_⟩⟩
      rw [same]
      exact State.safeCheck_last (after.mode.trans run) (State.keepsRun_eq_false_iff.mp keeps)
  · rw [if_neg limit] at judged ⊢
    rw [State.strikeOut, if_neg limit] at records
    have after : Batch n b (done ++ [f]) (es ++ [e]) ((u.append e).setLane f.lane (u.lane f.lane).struck) :=
      h.judge fresh (r := (u.lane f.lane).struck) records rfl ⟨rfl, rfl⟩ (judged ▸ promoted.struck) id
    refine ⟨_, after.batched (State.keepsRun_iff.mpr ⟨f.lane, .inl ?_⟩)⟩
    rw [State.role, State.setLane_lane_self]
    exact promoted.voting.trans voting

/-- A clean-round notice in a batch (R54). -/
theorem Batch.clean {l : Lane} (h : Batch n b done es u) (fresh : ∀ g ∈ done, g.lane ≠ l) (voting : (b.role l).voting = true) :
    ∃ new, Batched n b (done ++ [.clean l]) (es ++ new) (u.setLane l ((u.lane l).cleanRound u.settings.decay)) := by
  have promoted : Promoted (b.lane l) (u.lane l) := h.promoted (f := .clean l) fresh
  have role : ((u.lane l).cleanRound u.settings.decay).role = u.role l := LaneRec.cleanRound_role ..
  have after : Batch n b (done ++ [.clean l]) (es ++ []) (u.setLane l ((u.lane l).cleanRound u.settings.decay)) :=
    h.judge fresh (f := .clean l) (r := (u.lane l).cleanRound u.settings.decay) rfl rfl (.of_log rfl rfl)
      (h.settings ▸ promoted.cleanRound _) fun control => role.symm.trans control
  refine ⟨[], after.batched (State.keepsRun_iff.mpr ⟨l, .inl ?_⟩)⟩
  rw [State.role, State.setLane_lane_self, role]
  exact promoted.voting.trans voting

/-- A probation result CLEAN in a batch; one that completes the probation may pass control to the new voter (R48, R63). -/
theorem Batch.probClean {l : Lane} (h : Batch n b done es u) (keeps : u.keepsRun = true) (fresh : ∀ g ∈ done, g.lane ≠ l)
    (probation : b.role l = .probation) :
    ∃ new, Batched n b (done ++ [.probClean l]) (es ++ new) (u.probationClean n l) := by
  have promoted : Promoted (b.lane l) (u.lane l) := h.promoted (f := .probClean l) fresh
  have same : u.lane l = b.lane l := promoted.eq_of_probation probation
  have role : u.role l = .probation := (congrArg LaneRec.role same).trans probation
  unfold State.probationClean
  simp only [same, h.settings]
  by_cases completes : (b.lane l).probClean + 1 = b.settings.probation
  · rw [if_pos completes]
    have after : Batch n b (done ++ [.probClean l]) (es ++ [{ code := .qualified, lane := some l, round := some n }])
        ((u.setLane l { b.lane l with role := .standby, probClean := 0, probFails := 0, strikes := 0, streak := 0 }).append
          { code := .qualified, lane := some l, round := some n }) := by
      refine h.judge fresh (f := .probClean l)
        (r := { b.lane l with role := .standby, probClean := 0, probFails := 0, strikes := 0, streak := 0 }) ?_ rfl
        (.append_of rfl rfl) ?_ nofun
      · rw [State.findingRecords, if_pos completes]
      · rw [State.judged, if_pos completes]
        exact .refl _
    obtain ⟨cs, assigned, -⟩ := after.assign
    refine ⟨_, Batch.batched (by rw [← List.append_assoc]; exact assigned) ?_⟩
    refine State.keepsRun_iff.mpr ⟨l, (State.assignControl_stays _ l).mpr (.inl ?_)⟩
    rw [State.append_role, State.role, State.setLane_lane_self]
    rfl
  · rw [if_neg completes]
    refine ⟨[], Batch.batched (h.judge fresh (f := .probClean l)
      (r := { b.lane l with probClean := (b.lane l).probClean + 1 }) ?_ rfl (.of_log rfl rfl) ?_ ?_) ?_⟩
    · rw [State.findingRecords, if_neg completes]
    · rw [State.judged, if_neg completes]
      exact .refl _
    · exact fun control => (congrArg LaneRec.role same).trans control
    · exact keepsRun_of_judged keeps (by rw [role]; decide) fun m other => by
        rw [State.role, State.setLane_lane, if_neg other, State.role]

/-- A probation result FAILED in a batch; the one that ends the probation suspends the lane (R49). -/
theorem Batch.probFailed {l : Lane} (h : Batch n b done es u) (keeps : u.keepsRun = true) (collects : b.collecting = some .empty)
    (fresh : ∀ g ∈ done, g.lane ≠ l) (probation : b.role l = .probation) (p : Option PointNo) :
    ∃ new, Batched n b (done ++ [.probFailed l p]) (es ++ new) (u.probationFailed n l p) := by
  have promoted : Promoted (b.lane l) (u.lane l) := h.promoted (f := .probFailed l p) fresh
  have same : u.lane l = b.lane l := promoted.eq_of_probation probation
  have role : u.role l = .probation := (congrArg LaneRec.role same).trans probation
  have record : u.missRecord l n p = b.missRecord l n p := by rw [State.missRecord, State.missRecord, same]
  rw [State.probationFailed_eq, record, same, h.settings]
  by_cases fails : (b.lane l).probFails + 1 = b.settings.probfail
  · rw [if_pos fails]
    have after : Batch n b (done ++ [.probFailed l p]) (es ++ [b.missRecord l n p, b.goneRecord l .probation])
        ((u.append (b.missRecord l n p)).suspending l .probation) := by
      refine h.suspended (f := .probFailed l p) fresh ?_ ?_
      · rw [State.findingRecords, if_pos fails]
        rfl
      · rw [State.judged, if_pos fails]
        rfl
    rw [State.withdraw_of_empty _ (after.collecting.trans collects)]
    exact ⟨_, after.batched (keepsRun_of_judged keeps (by rw [role]; decide) fun m other => by
      rw [State.suspending_role, if_neg other, State.append_role])⟩
  · rw [if_neg fails]
    refine ⟨[b.missRecord l n p], Batch.batched (h.judge fresh (f := .probFailed l p)
      (r := { b.lane l with probClean := 0, probFails := (b.lane l).probFails + 1 }) ?_ rfl (.append_of rfl rfl) ?_ ?_) ?_⟩
    · rw [State.findingRecords, if_neg fails]
      rfl
    · rw [State.judged, if_neg fails]
      exact .refl _
    · exact fun control => (congrArg LaneRec.role same).trans control
    · exact keepsRun_of_judged keeps (by rw [role]; decide) fun m other => by
        rw [State.append_role, State.role, State.setLane_lane, if_neg other, State.role]

/-- One finding of the batch takes its effect whole (R50, R52). -/
theorem Batch.find (h : Batch n b done es u) (keeps : u.keepsRun = true) (run : b.mode = .run)
    (collects : b.collecting = some .empty) (fresh : ∀ g ∈ done, g.lane ≠ f.lane) (fits : f.Fits b) :
    ∃ new, Batched n b (done ++ [f]) (es ++ new) (u.takeFinding n f) := by
  have promoted := h.promoted fresh
  cases f with
  | late l =>
    have promoted : Promoted (b.lane l) (u.lane l) := promoted
    have strikes : (u.lane l).strikes = (b.lane l).strikes := by rw [promoted.eq]
    have voting : (u.role l).voting = true := promoted.voting.trans fits
    rw [State.takeFinding, if_pos voting, strikes]
    exact h.strike (f := .late l) run collects fresh fits _ rfl rfl
  | dissent l p k =>
    have promoted : Promoted (b.lane l) (u.lane l) := promoted
    have strikes : (u.lane l).strikes = (b.lane l).strikes := by rw [promoted.eq]
    have voting : (u.role l).voting = true := promoted.voting.trans fits
    rw [State.takeFinding, if_pos voting, strikes]
    exact h.strike (f := .dissent l p k) run collects fresh fits _ rfl rfl
  | clean l =>
    have voting : (u.role l).voting = true := promoted.voting.trans fits
    rw [State.takeFinding, if_pos voting]
    exact h.clean fresh fits
  | probClean l =>
    have probation : u.role l = .probation := (promoted.role_iff rfl).mpr fits
    rw [State.takeFinding, if_pos probation]
    exact h.probClean keeps fresh fits
  | probFailed l p =>
    have probation : u.role l = .probation := (promoted.role_iff rfl).mpr fits
    rw [State.takeFinding, if_pos probation]
    exact h.probFailed keeps collects fresh fits p

end finding

/-! ## The whole batch -/

section batch
variable {n : Nat} {b u v : State} {done todo : List Finding} {es : List Event}

/-- A voter that no finding has reached, or that a clean-round notice has, keeps the part in RUN. -/
theorem Batch.keepsRun (h : Batch n b done es u) {l : Lane} (voting : (b.role l).voting = true)
    (unjudged : (∀ f ∈ done, f.lane ≠ l) ∨ .clean l ∈ done) : u.keepsRun = true := by
  refine State.keepsRun_iff.mpr ⟨l, .inl ?_⟩
  obtain waiting | clean := unjudged
  · exact (h.waiting l waiting).voting.trans voting
  · have promoted : Promoted ((b.lane l).cleanRound b.settings.decay) (u.lane l) := h.judged _ clean
    rw [State.role, promoted.voting, LaneRec.cleanRound_role]
    exact voting

/-- The findings of a batch take their effects in turn. A batch that judges a lane in PROBATION has a clean-round notice too, so that
SAFE is entered at the last finding alone. -/
theorem Batch.fold (h : Batch n b done es u) (keeps : u.keepsRun = true) (run : b.mode = .run)
    (collects : b.collecting = some .empty) (nodup : ((done ++ todo).map Finding.lane).Nodup)
    (fits : ∀ f ∈ done ++ todo, f.Fits b)
    (clean : ∀ f ∈ done ++ todo, b.role f.lane = .probation → ∃ l, .clean l ∈ done ++ todo) :
    ∃ new, Batched n b (done ++ todo) (es ++ new) (todo.foldl (State.takeFinding n) u) := by
  induction todo generalizing done es u with
  | nil => exact ⟨[], by simpa using h.batched keeps⟩
  | cons f todo ih =>
    have fresh : ∀ g ∈ done, g.lane ≠ f.lane := by
      rw [List.map_append, List.nodup_append] at nodup
      exact fun g hg => nodup.2.2 _ (List.mem_map_of_mem hg) _ (by simp)
    rw [List.append_cons] at nodup fits clean ⊢
    obtain ⟨new, v, after, ⟨stays, eq⟩ | ⟨last, l, voting, ended, eq⟩⟩ :=
      h.find keeps run collects fresh (fits f (by simp))
    · rw [List.foldl_cons, eq]
      obtain ⟨more, batched⟩ := ih after stays nodup fits clean
      exact ⟨new ++ more, by rwa [← List.append_assoc]⟩
    · have none_left : todo = [] := by
        rw [List.map_append, List.nodup_append] at nodup
        obtain ⟨-, -, apart⟩ := nodup
        have unjudged (g : Finding) (hg : g ∈ todo) : ∀ d ∈ done ++ [f], d.lane ≠ g.lane := fun d hd =>
          apart _ (List.mem_map_of_mem hd) _ (List.mem_map_of_mem hg)
        have no_voter (g : Finding) (hg : g ∈ todo) (hv : (b.role g.lane).voting = true) : False := by
          rw [after.keepsRun hv (.inl (unjudged g hg))] at last
          cases last
        refine List.eq_nil_iff_forall_not_mem.mpr fun g hg => ?_
        have fit := fits g (List.mem_append_right _ hg)
        by_cases probation : b.role g.lane = .probation
        · obtain ⟨m, hm⟩ := clean g (List.mem_append_right _ hg) probation
          have hv : (b.role m).voting = true := fits _ hm
          obtain hm | hm := List.mem_append.mp hm
          · rw [after.keepsRun hv (.inr hm)] at last
            cases last
          · exact no_voter _ hm hv
        · cases g with
          | late | dissent | clean => exact no_voter _ hg fit
          | probClean | probFailed => exact probation fit
      subst none_left
      rw [List.append_nil, List.foldl_cons, List.foldl_nil, eq]
      exact ⟨new, v, after, .inr ⟨last, l, voting, ended, rfl⟩⟩

end batch

end Sys2Proof.Machine
end

section
/-! What a close finds (R31 to R37): its votes point by point, the finding about each lane, and the batch as a list of those findings by
their kinds. -/

namespace Sys2Proof.Machine

-- One proof after another: elaborated side by side, the proofs of the whole text need more memory than the check gives.
set_option Elab.async false

/-! ## The votes -/

section votes
variable (s : State) (c : Collecting) (l : Lane) (p : PointNo)

theorem State.members_voters : (s.voters c).members = Lane.all.filter fun l => (s.role l).voting && c.sealed.get l :=
  List.filter_congr fun l _ => PerLane.get_ofFn (l := l) fun l => (s.role l).voting && c.sealed.get l

theorem State.votes_getElem : (s.votes c)[p] = match (s.point p).defn, (s.point p).target with
    | some d, some old => some (s.voteAt c p d.tol old)
    | _, _ => none := by
  have vote : (s.votes c)[p] = s.voteOn c p := Vector.getElem_ofFn p.isLt
  rw [vote, State.voteOn, State.members_voters]
  cases (s.point p).defn <;> cases (s.point p).target <;> rfl

/-- The points whose vote satisfies `f`. -/
theorem State.where_votes (f : PointVote → Bool) : (s.votes c).where_ f = s.votedWhere c fun _ _ _ v => f v := by
  refine List.filter_congr fun p _ => ?_
  rw [State.votes_getElem]
  cases (s.point p).defn <;> cases (s.point p).target <;> rfl

theorem State.dissents_votes : (s.votes c).dissents l = s.dissentedOn c l := s.where_votes c _

theorem State.changedBy_votes : s.changedBy (s.votes c) = s.votedWhere c fun _ _ old v => v.target.getD old ≠ old := by
  refine List.filter_congr fun p _ => ?_
  rw [State.votes_getElem]
  cases (s.point p).defn with
  | none => rfl
  | some d =>
    cases target : (s.point p).target with
    | none => rfl
    | some old =>
      dsimp only
      cases s.voteAt c p d.tol old with
      | mk outcome result dissenter =>
        cases result with
        | none => simp
        | some v => simp [changesTarget, target, eq_comm]

theorem State.disagreements_votes : s.disagreements c (s.votes c) l = s.disagreedOn c l := by
  unfold State.disagreements State.disagreedOn State.votedWhere
  refine List.filter_congr fun p _ => ?_
  rw [State.votes_getElem]
  cases (s.point p).defn with
  | none => rfl
  | some d =>
    cases (s.point p).target with
    | none => rfl
    | some old =>
      simp only [apart_eq_max]
      rfl

/-- The result of the vote on each point is what the point takes (R35). -/
theorem State.takeResults : (match (s.votes c)[p] with
    | some v => takeResult s.round v (s.point p) (s.slotPending p)
    | none => (s.point p, s.slotPending p)) = s.voted c p := by
  rw [State.votes_getElem, State.voted]
  cases (s.point p).defn <;> cases (s.point p).target <;> rfl

end votes

/-! ## The finding about a lane -/

/-- The finding of the close of `c` about lane `l`, if there is one (R36, R37). -/
def State.finding (s : State) (c : Collecting) (l : Lane) : Option Finding :=
  if (s.role l).voting then
    if c.sealed.get l then
      match s.dissentedOn c l with
      | [] => some (.clean l)
      | p :: ps => some (.dissent l p (ps.length + 1))
    else some (.late l)
  else if s.role l = .probation ∧ s.judges c then
    if c.sealed.get l ∧ s.disagreedOn c l = [] then some (.probClean l)
    else some (.probFailed l (if c.sealed.get l then (s.disagreedOn c l).head? else none))
  else none

section finding
variable {s : State} {c : Collecting} {l : Lane} {f : Finding}

theorem State.finding_late (voting : (s.role l).voting = true) (open_ : c.sealed.get l = false) :
    s.finding c l = some (.late l) := by
  simp [State.finding, voting, open_]

theorem State.finding_clean (voting : (s.role l).voting = true) (joined : c.sealed.get l = true)
    (agrees : s.dissentedOn c l = []) : s.finding c l = some (.clean l) := by
  simp [State.finding, voting, joined, agrees]

theorem State.finding_dissent {p : PointNo} {ps : List PointNo} (voting : (s.role l).voting = true)
    (joined : c.sealed.get l = true) (dissents : s.dissentedOn c l = p :: ps) :
    s.finding c l = some (.dissent l p (ps.length + 1)) := by
  simp [State.finding, voting, joined, dissents]

theorem State.finding_probClean (probation : s.role l = .probation) (judges : s.judges c = true) (joined : c.sealed.get l = true)
    (agrees : s.disagreedOn c l = []) : s.finding c l = some (.probClean l) := by
  simp [State.finding, probation, judges, joined, agrees, Role.voting]

theorem State.finding_probFailed (probation : s.role l = .probation) (judges : s.judges c = true)
    (fails : c.sealed.get l = false ∨ s.disagreedOn c l ≠ []) :
    s.finding c l = some (.probFailed l (if c.sealed.get l then (s.disagreedOn c l).head? else none)) := by
  have fails : ¬ (c.sealed.get l = true ∧ s.disagreedOn c l = []) := by
    rintro ⟨joined, agrees⟩
    simp [joined, agrees] at fails
  have voting : (s.role l).voting = false := by rw [probation]; rfl
  rw [State.finding, voting, if_neg Bool.false_ne_true, if_pos ⟨probation, judges⟩, if_neg fails]

theorem State.finding_none (voting : (s.role l).voting = false) (unjudged : s.role l = .probation → s.judges c = false) :
    s.finding c l = none := by
  rw [State.finding, voting, if_neg Bool.false_ne_true, if_neg]
  rintro ⟨probation, judges⟩
  rw [unjudged probation] at judges
  cases judges

/-- A finding about a lane names it and concerns its role. -/
theorem State.finding_spec (h : s.finding c l = some f) : f.lane = l ∧ f.Fits s := by
  unfold State.finding at h
  split at h
  next voting =>
    split at h
    · split at h <;> cases h <;> exact ⟨rfl, voting⟩
    · cases h
      exact ⟨rfl, voting⟩
  · split at h
    next judged =>
      split at h <;> cases h <;> exact ⟨rfl, judged.1⟩
    · cases h

/-- The records of the findings about a lane are those the close makes about it (R36, R48, R49). -/
theorem State.findingRecords_finding (s : State) (c : Collecting) (l : Lane) :
    (s.finding c l).toList.flatMap (s.findingRecords s.round) = s.closeRecords c l := by
  unfold State.finding State.closeRecords
  split
  · unfold State.voterRecords
    split
    · cases s.dissentedOn c l with
      | nil => rfl
      | cons p ps => simp [State.findingRecords]
    · simp [State.findingRecords]
  · split
    · unfold State.probationRecords
      split <;> simp [State.findingRecords]
    · rfl

end finding

/-! ## The batch by kinds -/

/-- The four kinds of findings in the order of the batch (R38): LATE, DISSENT, clean, probation results. -/
def Finding.kind : Finding → Fin 4
  | .late _ => 0
  | .dissent _ _ _ => 1
  | .clean _ => 2
  | .probClean _ | .probFailed _ _ => 3

/-- The findings of a close, lane by lane. -/
def State.found (s : State) (c : Collecting) : List Finding := Lane.all.filterMap (s.finding c)

/-- A list of lanes made into findings of one kind is that kind of the findings, lane by lane. -/
theorem State.found_filter (s : State) (c : Collecting) (k : Fin 4) (g : Lane → Option Finding)
    (h : ∀ l, g l = (s.finding c l).filter fun f => f.kind = k) :
    Lane.all.filterMap g = (s.found c).filter fun f => f.kind = k := by
  rw [State.found, List.filter_filterMap]
  exact List.filterMap_congr fun l _ => h l

/-- A voter has no probation result, and a lane that is no voter no other finding. -/
theorem State.finding_voting {s : State} {c : Collecting} {l : Lane} (voting : (s.role l).voting = true) :
    (s.finding c l).filter (fun f => f.kind = 3) = none := by
  cases joined : c.sealed.get l with
  | false => rw [State.finding_late voting joined]; rfl
  | true =>
    cases dissents : s.dissentedOn c l with
    | nil => rw [State.finding_clean voting joined dissents]; rfl
    | cons p ps => rw [State.finding_dissent voting joined dissents]; rfl

theorem State.finding_unvoting {s : State} {c : Collecting} {l : Lane} {k : Fin 4} (voting : (s.role l).voting = false)
    (other : k ≠ 3) : (s.finding c l).filter (fun f => f.kind = k) = none := by
  unfold State.finding
  rw [voting, if_neg Bool.false_ne_true]
  split
  · split <;> exact Option.filter_eq_none_iff.mpr fun f hf => by cases hf; exact ne_true_of_eq_false (decide_eq_false other.symm)
  · rfl

theorem State.judges_iff (s : State) (c : Collecting) : s.voters c = noLanes ↔ s.judges c = false := by
  constructor
  · intro h
    refine Bool.eq_false_iff.mpr fun judges => ?_
    obtain ⟨l, -, voter⟩ := List.any_eq_true.mp judges
    have joined : (s.voters c).get l = true := by rw [State.voters, PerLane.get_ofFn, voter]
    rw [h] at joined
    cases l <;> cases joined
  · intro h
    refine PerLane.ext_get fun l => ?_
    have out : ((s.role l).voting && c.sealed.get l) = false :=
      Bool.eq_false_iff.mpr fun voter => Bool.eq_false_iff.mp h (List.any_eq_true.mpr ⟨l, Lane.mem_all l, voter⟩)
    rw [State.voters, PerLane.get_ofFn, out]
    cases l <;> rfl

theorem map_filter_eq_filterMap {α β : Type} (xs : List α) (p : α → Bool) (g : α → β) :
    (xs.filter p).map g = xs.filterMap fun x => if p x then some (g x) else none := by
  rw [← List.filterMap_eq_map, List.filterMap_filter]
  rfl

section kinds
variable (s : State) (c : Collecting)

theorem State.lateLanes_get (l : Lane) : (s.lateLanes c).get l = ((s.role l).voting && !c.sealed.get l) := by
  rw [State.lateLanes, PerLane.get_ofFn]

theorem State.voters_get (l : Lane) : (s.voters c).get l = ((s.role l).voting && c.sealed.get l) := by
  rw [State.voters, PerLane.get_ofFn]

theorem State.dissenters_get (l : Lane) : (s.dissenters c (s.votes c)).get l =
    ((s.role l).voting && c.sealed.get l && !(s.dissentedOn c l).isEmpty) := by
  rw [State.dissenters, PerLane.get_ofFn, State.voters_get, State.dissents_votes]

/-- The lanes that are late (R36). -/
theorem State.found_late : (s.lateLanes c).members.map Finding.late = (s.found c).filter fun f => f.kind = 0 := by
  rw [LaneSet.members, map_filter_eq_filterMap]
  refine s.found_filter c 0 _ fun l => ?_
  rw [State.lateLanes_get]
  cases voting : (s.role l).voting with
  | false =>
    rw [State.finding_unvoting voting (by decide)]
    rfl
  | true =>
    cases joined : c.sealed.get l with
    | false => rw [State.finding_late voting joined]; rfl
    | true =>
      cases dissents : s.dissentedOn c l with
      | nil => rw [State.finding_clean voting joined dissents]; rfl
      | cons p ps => rw [State.finding_dissent voting joined dissents]; rfl

/-- The voters marked as dissenters (R36). -/
theorem State.found_dissent : ((s.dissenters c (s.votes c)).members.filterMap fun l =>
      match (s.votes c).dissents l with
      | [] => none
      | p :: ps => some (Finding.dissent l p (ps.length + 1))) = (s.found c).filter fun f => f.kind = 1 := by
  rw [LaneSet.members, List.filterMap_filter]
  refine s.found_filter c 1 _ fun l => ?_
  rw [State.dissenters_get, State.dissents_votes]
  cases voting : (s.role l).voting with
  | false =>
    rw [State.finding_unvoting voting (by decide)]
    rfl
  | true =>
    cases joined : c.sealed.get l with
    | false => rw [State.finding_late voting joined]; rfl
    | true =>
      cases dissents : s.dissentedOn c l with
      | nil => rw [State.finding_clean voting joined dissents]; rfl
      | cons p ps => rw [State.finding_dissent voting joined dissents]; rfl

/-- The voters without a dissent (R36). -/
theorem State.found_clean : (((s.voters c).members.filter fun l => ((s.votes c).dissents l).isEmpty).map Finding.clean) =
    (s.found c).filter fun f => f.kind = 2 := by
  rw [LaneSet.members, List.filter_filter, map_filter_eq_filterMap]
  refine s.found_filter c 2 _ fun l => ?_
  rw [State.voters_get, State.dissents_votes]
  cases voting : (s.role l).voting with
  | false =>
    rw [State.finding_unvoting voting (by decide), Bool.false_and, Bool.and_false]
    rfl
  | true =>
    cases joined : c.sealed.get l with
    | false =>
      rw [State.finding_late voting joined, Bool.and_false, Bool.and_false]
      rfl
    | true =>
      cases dissents : s.dissentedOn c l with
      | nil => rw [State.finding_clean voting joined dissents]; rfl
      | cons p ps => rw [State.finding_dissent voting joined dissents]; rfl

/-- The probation result of a judged lane (R37). -/
theorem State.probationResult_eq {l : Lane} (probation : s.role l = .probation) (judges : s.judges c = true) :
    s.finding c l = some (s.probationResult c (s.votes c) l) := by
  unfold State.probationResult
  rw [State.disagreements_votes]
  cases joined : c.sealed.get l with
  | false =>
    rw [State.finding_probFailed probation judges (.inl joined), joined]
    rfl
  | true =>
    cases disagrees : s.disagreedOn c l with
    | nil => rw [State.finding_probClean probation judges joined disagrees]; rfl
    | cons p ps =>
      rw [State.finding_probFailed probation judges (.inr (by simp [disagrees])), joined, disagrees]
      rfl

theorem State.probationResult_kind (l : Lane) : (s.probationResult c (s.votes c) l).kind = 3 := by
  unfold State.probationResult
  split
  · split <;> rfl
  · rfl

/-- The probation results, where some voter has sealed (R37). -/
theorem State.found_probation : (if s.voters c = noLanes then []
      else (Lane.all.filter fun l => s.role l = .probation).map (s.probationResult c (s.votes c))) =
    (s.found c).filter fun f => f.kind = 3 := by
  cases judges : s.judges c with
  | false =>
    rw [if_pos ((s.judges_iff c).mpr judges), ← s.found_filter c 3 (fun _ => none) fun l => ?_]
    · rfl
    · cases voting : (s.role l).voting with
      | true => exact (State.finding_voting voting).symm
      | false => rw [State.finding_none voting fun _ => judges]; rfl
  | true =>
    have some_voter : s.voters c ≠ noLanes := fun none_ => Bool.false_ne_true (((s.judges_iff c).mp none_).symm.trans judges)
    rw [if_neg some_voter, map_filter_eq_filterMap]
    refine s.found_filter c 3 _ fun l => ?_
    by_cases probation : s.role l = .probation
    · rw [if_pos (by simpa using probation), State.probationResult_eq s c probation judges, Option.filter_some,
        if_pos (by simpa using s.probationResult_kind c l)]
    · rw [if_neg (by simpa using probation)]
      cases voting : (s.role l).voting with
      | true => exact (State.finding_voting voting).symm
      | false => rw [State.finding_none voting fun h => absurd h probation]; rfl

/-- The batch is the findings about the lanes, sorted by kind (R38). -/
theorem State.findings_eq : s.findings c (s.votes c) =
    (s.found c).filter (fun f => f.kind = 0) ++ (s.found c).filter (fun f => f.kind = 1) ++
      (s.found c).filter (fun f => f.kind = 2) ++ (s.found c).filter fun f => f.kind = 3 := by
  unfold State.findings
  refine congrArg₂ HAppend.hAppend (congrArg₂ HAppend.hAppend (congrArg₂ HAppend.hAppend ?_ ?_) ?_) ?_
  · exact s.found_late c
  · refine (List.filterMap_congr fun l _ => ?_).trans (s.found_dissent c)
    cases (s.votes c).dissents l <;> rfl
  · exact s.found_clean c
  · exact s.found_probation c

theorem count_kind (f : Finding) (k : Fin 4) (fs : List Finding) :
    (fs.filter fun g => g.kind = k).count f = if f.kind = k then fs.count f else 0 := by
  split
  next same => exact List.count_filter (by simpa using same)
  next other => exact List.count_eq_zero.mpr fun mem => other (by simpa using (List.mem_filter.mp mem).2)

/-- Every finding about a lane is in the batch once. -/
theorem State.findings_perm : (s.findings c (s.votes c)).Perm (s.found c) := by
  rw [State.findings_eq]
  refine List.perm_iff_count.mpr fun f => ?_
  simp only [List.count_append, count_kind]
  cases f <;> simp [Finding.kind]

end kinds

end Sys2Proof.Machine
end

section
/-! The close of a round (R31 to R42, R52): what its votes leave, how its batch ends, and the records of both. -/

namespace Sys2Proof.Machine

-- One proof after another: elaborated side by side, the proofs of the whole text need more memory than the check gives.
set_option Elab.async false

/-! ## The close up to the batch -/

theorem State.appendOutcome_eq (s : State) (code : Code) (ps : List PointNo) :
    s.appendOutcome code ps = (outcomeRecords s.round code ps).foldl State.append s := by
  cases ps <;> rfl

/-- The part of the state that a close can change. -/
def RoundPart (s t : State) : Prop := t = { s with
  mode := t.mode, summary := t.summary, round := t.round, collecting := t.collecting, lanes := t.lanes, log := t.log
  points := t.points, banks := t.banks, links := t.links }

theorem RoundPart.trans {s t u : State} (h : RoundPart s t) (g : RoundPart t u) : RoundPart s u := by
  unfold RoundPart at h g ⊢
  rw [g, h]

theorem BanksPart.roundPart {s t : State} (h : BanksPart s t) : RoundPart s t := by
  unfold BanksPart at h
  unfold RoundPart
  rw [h]

section closeVotes
variable (s : State) (c : Collecting) (cause : CloseCause)

/-- The part at the close of `c` as the batch of findings finds it (R35, R39 to R41). -/
@[irreducible] def State.closing : State := s.closeVotes c cause (s.votes c)

/-- The records the Round Voter makes at the close of `c` (R39). -/
def State.closeOutcomes : List Event :=
  outcomeRecords s.round .nomajority (s.votedWhere c fun _ _ _ v => v.outcome = .nomajority) ++
    outcomeRecords s.round .split (s.votedWhere c fun _ _ _ v => v.outcome = .split)

/-- The result of its vote, as a point takes it (R35). -/
def takeVote (round : Nat) (vs : Votes) (p : PointNo) (r : PointRec) (member : Bool) : PointRec × Bool :=
  match vs[p] with
  | some v => takeResult round v r member
  | none => (r, member)

/-- The points of `s` with the results of the votes taken (R35). -/
@[irreducible] def State.resulted : State := s.updatePoints (takeVote s.round (s.votes c))

theorem State.resulted_part : BanksPart s (s.resulted c) := by
  unfold State.resulted
  exact .updatePoints ..

theorem State.resulted_point (p : PointNo) : ((s.resulted c).point p, (s.resulted c).slotPending p) = s.voted c p := by
  unfold State.resulted
  rw [State.updatePoints_point, State.updatePoints_slotPending, Prod.mk.eta, ← State.takeResults]
  unfold takeVote
  cases (s.votes c)[p] <;> rfl

theorem State.resulted_links : (s.resulted c).links = s.links := by
  unfold State.resulted
  exact s.updatePoints_links _

theorem State.resulted_bank (b : BankNo) : (s.resulted c).bank b =
    { s.bank b with pendingSet := ((s.resulted c).bank b).pendingSet } := by
  unfold State.resulted
  rw [State.updatePoints_bank]

theorem State.closing_eq : s.closing c cause = { s.resulted c with
    log := ((s.closeOutcomes c).foldl State.append s).log
    round := roundAfter s.round, collecting := some .empty, summary := some (s.summarise c (s.votes c) cause) } := by
  have log (x y : State) (es : List Event) (clock : y.clock = x.clock) (log : y.log = x.log) :
      es.foldl State.append y = { y with log := (es.foldl State.append x).log } := by
    rw [foldl_append_eq, foldl_append_log es clock log]
  have round (x : State) (es : List Event) : (es.foldl State.append x).round = x.round := by rw [foldl_append_eq]
  have resulted : (s.resulted c).round = s.round := (s.resulted_part c).round
  have unfolded : s.closing c cause =
      { ((s.resulted c).appendOutcome .nomajority ((s.votes c).where_ fun v => v.outcome = .nomajority)).appendOutcome .split
          ((s.votes c).where_ fun v => v.outcome = .split) with
        round := roundAfter s.round, collecting := some .empty, summary := some (s.summarise c (s.votes c) cause) } := by
    have same (f g : PointNo → PointRec → Bool → PointRec × Bool) (h : f = g) :
        { ((s.updatePoints f).appendOutcome .nomajority ((s.votes c).where_ fun v => v.outcome = .nomajority)).appendOutcome .split
            ((s.votes c).where_ fun v => v.outcome = .split) with
          round := roundAfter s.round, collecting := some .empty, summary := some (s.summarise c (s.votes c) cause) } =
        { ((s.updatePoints g).appendOutcome .nomajority ((s.votes c).where_ fun v => v.outcome = .nomajority)).appendOutcome .split
            ((s.votes c).where_ fun v => v.outcome = .split) with
          round := roundAfter s.round, collecting := some .empty, summary := some (s.summarise c (s.votes c) cause) } := by
      rw [h]
    unfold State.closing State.closeVotes State.resulted
    refine same _ _ (funext fun p => funext fun r => funext fun member => ?_)
    unfold takeVote
    cases (s.votes c)[p] <;> rfl
  rw [unfolded, State.appendOutcome_eq, State.appendOutcome_eq, round, resulted, ← List.foldl_append, State.where_votes,
    State.where_votes, log s _ _ (s.resulted_part c).clock (s.resulted_part c).log]
  generalize s.resulted c = u
  rfl

theorem State.closing_notes : Notes (s.closeOutcomes c) s (s.closing c cause) := by
  rw [State.closing_eq]
  exact ⟨(s.resulted_part c).clock, rfl⟩

theorem State.closing_part : RoundPart s (s.closing c cause) := by
  have part := s.resulted_part c
  rw [State.closing_eq]
  generalize s.resulted c = u at part ⊢
  unfold BanksPart at part
  unfold RoundPart
  rw [part]

theorem State.closing_point (p : PointNo) : ((s.closing c cause).point p, (s.closing c cause).slotPending p) = s.voted c p := by
  rw [State.closing_eq, ← State.resulted_point]
  generalize s.resulted c = u
  rfl

theorem State.closing_bank (b : BankNo) : (s.closing c cause).bank b =
    { s.bank b with pendingSet := ((s.closing c cause).bank b).pendingSet } := by
  have bank := s.resulted_bank c b
  rw [State.closing_eq]
  generalize s.resulted c = u at bank ⊢
  exact bank

@[simp] theorem State.closing_mode : (s.closing c cause).mode = s.mode := by
  rw [State.closing_eq]; exact (s.resulted_part c).mode
@[simp] theorem State.closing_settings : (s.closing c cause).settings = s.settings := by
  rw [State.closing_eq]; exact (s.resulted_part c).settings
@[simp] theorem State.closing_clock : (s.closing c cause).clock = s.clock := by
  rw [State.closing_eq]; exact (s.resulted_part c).clock
@[simp] theorem State.closing_lanes : (s.closing c cause).lanes = s.lanes := by
  rw [State.closing_eq]; exact (s.resulted_part c).lanes
@[simp] theorem State.closing_links : (s.closing c cause).links = s.links := by
  rw [State.closing_eq]; exact s.resulted_links c
@[simp] theorem State.closing_round : (s.closing c cause).round = roundAfter s.round := by rw [State.closing_eq]
@[simp] theorem State.closing_collecting : (s.closing c cause).collecting = some .empty := by rw [State.closing_eq]
@[simp] theorem State.closing_summary : (s.closing c cause).summary = some (s.summarise c (s.votes c) cause) := by
  rw [State.closing_eq]
@[simp] theorem State.closing_lane (l : Lane) : (s.closing c cause).lane l = s.lane l :=
  congrArg (PerLane.get · l) (s.closing_lanes c cause)
@[simp] theorem State.closing_role (l : Lane) : (s.closing c cause).role l = s.role l :=
  congrArg LaneRec.role (s.closing_lane c cause l)

/-- Nothing a finding looks at has changed since before the close. -/
theorem State.judged_closing (f : Finding) : (s.closing c cause).judged f = s.judged f := by
  have gone (l : Lane) : (s.closing c cause).gone l = s.gone l :=
    State.gone_congr (by rw [State.closing_lane]) (s.closing_settings c cause) (s.closing_clock c cause)
  cases f <;> simp only [State.judged, State.closing_lane, State.closing_settings, gone]

theorem State.goneRecord_closing (l : Lane) (why : SuspendCause) : (s.closing c cause).goneRecord l why = s.goneRecord l why :=
  State.goneRecord_congr (by rw [State.closing_lane]) (s.closing_settings c cause) why

theorem State.findingRecords_closing (n : Nat) (f : Finding) :
    (s.closing c cause).findingRecords n f = s.findingRecords n f := by
  cases f <;> simp only [State.findingRecords, State.strikeOut, State.closing_lane, State.closing_settings,
    State.goneRecord_closing]

theorem State.closeRound_eq : s.closeRound c cause =
    (s.findings c (s.votes c)).foldl (State.takeFinding s.round) (s.closing c cause) := by
  unfold State.closeRound State.closing
  rfl

end closeVotes

/-! ## The findings of a close as a batch -/

/-- Two voters or fewer mark no dissenter (R33, R34). -/
theorem votePoint_dissenter (tol : Nat) (control : Option Lane) (opinions : List (Lane × Nat)) (few : opinions.length ≤ 2) :
    (votePoint tol control opinions).dissenter = none := by
  match opinions, few with
  | [], _ => rfl
  | [_], _ => rfl
  | [o, q], _ =>
    unfold votePoint
    dsimp only
    split <;> rfl

section findings
variable {s : State} {c : Collecting} {cause : CloseCause} {l : Lane} {f : Finding}

theorem State.mem_findings : f ∈ s.findings c (s.votes c) ↔ s.finding c f.lane = some f := by
  rw [(s.findings_perm c).mem_iff, State.found, List.mem_filterMap]
  constructor
  · rintro ⟨l, -, h⟩
    rwa [(State.finding_spec h).1]
  · exact fun h => ⟨_, Lane.mem_all _, h⟩

theorem State.findings_nodup : ((s.findings c (s.votes c)).map Finding.lane).Nodup := by
  have sublist : ((s.found c).map Finding.lane).Sublist Lane.all := by
    have each (l : Lane) : (s.finding c l).map Finding.lane = if (s.finding c l).isSome then some l else none := by
      cases h : s.finding c l with
      | none => rfl
      | some f => exact congrArg some (State.finding_spec h).1
    have filtered : (s.found c).map Finding.lane = Lane.all.filter fun l => (s.finding c l).isSome := by
      rw [State.found, List.map_filterMap, ← List.map_id (Lane.all.filter _), map_filter_eq_filterMap]
      exact List.filterMap_congr fun l _ => each l
    rw [filtered]
    exact List.filter_sublist
  exact ((s.findings_perm c).map _).nodup_iff.mpr (sublist.nodup (by decide))

/-- A close that judges a lane in PROBATION has at most two voters, so that the one that has sealed gets a clean-round notice. -/
theorem State.findings_clean (probation : s.role l = .probation) (found : s.finding c l ≠ none) :
    ∃ m, Finding.clean m ∈ s.findings c (s.votes c) := by
  have judges : s.judges c = true := by
    by_contra unjudged
    exact found (State.finding_none (by rw [probation]; rfl) fun _ => by simpa using unjudged)
  have few : (Lane.all.filter fun m => (s.role m).voting && c.sealed.get m).length ≤ 2 := by
    have less : (Lane.all.filter fun m => (s.role m).voting && c.sealed.get m).length < Lane.all.length :=
      List.length_filter_lt_length_iff_exists.mpr ⟨l, Lane.mem_all l, by simp [probation, Role.voting]⟩
    exact Nat.le_of_lt_succ less
  have agree (m : Lane) : s.dissentedOn c m = [] := by
    refine List.filter_eq_nil_iff.mpr fun p _ => ?_
    cases (s.point p).defn with
    | none => exact Bool.false_ne_true
    | some d =>
      cases (s.point p).target with
      | none => exact Bool.false_ne_true
      | some old =>
        have none_ : (s.voteAt c p d.tol old).dissenter = none := votePoint_dissenter _ _ _ (by rwa [List.length_map])
        simp [none_]
  obtain ⟨m, -, voter⟩ := List.any_eq_true.mp judges
  obtain ⟨voting, joined⟩ := Bool.and_eq_true_iff.mp voter
  exact ⟨m, State.mem_findings.mpr (State.finding_clean voting joined (agree m))⟩

/-- The findings take their effects one after another (R52). -/
theorem State.closeRound_batched (run : s.mode = .run) (keeps : s.keepsRun = true) :
    ∃ es, Batched s.round (s.closing c cause) (s.findings c (s.votes c)) es (s.closeRound c cause) := by
  have keeps : (s.closing c cause).keepsRun = true := by
    simpa only [State.keepsRun, State.closing_role] using keeps
  have fits {f : Finding} (hf : f ∈ s.findings c (s.votes c)) : f.Fits (s.closing c cause) := by
    have fit := (State.finding_spec (State.mem_findings.mp hf)).2
    cases f <;> simpa only [Finding.Fits, State.closing_role] using fit
  obtain ⟨es, batched⟩ := Batch.fold (todo := s.findings c (s.votes c)) (Batch.begin s.round (s.closing c cause)) keeps
    ((s.closing_mode c cause).trans run) (s.closing_collecting c cause) State.findings_nodup (fun f hf => fits hf)
    fun f hf probation => State.findings_clean (by rwa [State.closing_role] at probation)
      (by rw [State.mem_findings.mp hf]; exact Option.some_ne_none f)
  exact ⟨es, State.closeRound_eq s c cause ▸ batched⟩

/-- Without a voter or a HELD lane there is no finding. -/
theorem State.findings_nil (last : s.keepsRun = false) : s.findings c (s.votes c) = [] := by
  have out := State.keepsRun_eq_false_iff.mp last
  refine List.eq_nil_iff_forall_not_mem.mpr fun f hf => ?_
  have unjudged : s.judges c = false := by
    refine Bool.eq_false_iff.mpr fun judges => ?_
    obtain ⟨m, -, voter⟩ := List.any_eq_true.mp judges
    rw [(out m).1] at voter
    cases voter
  rw [State.mem_findings, State.finding_none (out f.lane).1 fun _ => unjudged] at hf
  cases hf

end findings

end Sys2Proof.Machine
end

section
/-! What a close leaves, lane by lane, point by point and record by record, in the words of `Closed`. -/

namespace Sys2Proof.Machine

-- One proof after another: elaborated side by side, the proofs of the whole text need more memory than the check gives.
set_option Elab.async false

/-! ## What the findings leave of a lane -/

section lanes
variable {s t : State} {l : Lane}

theorem struck_of_promoted (h : Promoted (if (s.lane l).strikes + 1 = s.settings.strikes then s.gone l else (s.lane l).struck)
    (t.lane l)) : Struck s t l := by
  unfold Struck
  by_cases limit : (s.lane l).strikes + 1 = s.settings.strikes
  · rw [if_pos limit] at h ⊢
    exact h.eq_of_role fun standby => by
      have unvoting := State.gone_voting (s := s) (l := l)
      rw [standby] at unvoting
      cases unvoting
  · rw [if_neg limit] at h ⊢
    exact ⟨h.role, h.eq⟩

theorem cleaned_of_promoted (h : Promoted ((s.lane l).cleanRound s.settings.decay) (t.lane l)) : Cleaned s t l := by
  refine ⟨?_, ?_⟩
  · have role := h.role
    rwa [LaneRec.cleanRound_role] at role
  · rw [h.eq]
    unfold LaneRec.cleanRound
    by_cases decays : (s.lane l).streak + 1 = s.settings.decay <;> simp only [decays, if_true, if_false] <;> rfl

theorem passed_of_promoted (probation : s.role l = .probation) (h : Promoted (s.judged (.probClean l)) (t.lane l)) :
    Passed s t l := by
  rw [State.judged] at h
  unfold Passed
  by_cases completes : (s.lane l).probClean + 1 = s.settings.probation
  · rw [if_pos completes] at h ⊢
    exact ⟨h.voting, h.eq⟩
  · rw [if_neg completes] at h ⊢
    exact h.eq_of_probation probation

theorem missed_of_promoted {p : Option PointNo} (probation : s.role l = .probation)
    (h : Promoted (s.judged (.probFailed l p)) (t.lane l)) : Missed s t l := by
  rw [State.judged] at h
  unfold Missed
  by_cases fails : (s.lane l).probFails + 1 = s.settings.probfail
  · rw [if_pos fails] at h ⊢
    exact h.eq_of_role fun standby => by
      have unvoting := State.gone_voting (s := s) (l := l)
      rw [standby] at unvoting
      cases unvoting
  · rw [if_neg fails] at h ⊢
    exact h.eq_of_probation probation

/-- A voter that a finding reaches does not go back to PROBATION. -/
theorem State.judged_not_probation {f : Finding} (voting : (s.role f.lane).voting = true) (fits : f.Fits s) :
    (s.judged f).role ≠ .probation := by
  have other : s.role f.lane ≠ .probation := fun h => by rw [h] at voting; cases voting
  have gone : (s.gone f.lane).role ≠ .probation := by
    rw [State.gone_role]
    split <;> decide
  cases f with
  | late l | dissent l p k =>
    rw [State.judged]
    split
    · exact gone
    · exact other
  | clean l =>
    rw [State.judged]
    rw [LaneRec.cleanRound_role]
    exact other
  | probClean l | probFailed l p => exact absurd fits other

end lanes

/-! ## The end of the batch -/

/-- The batch that left `v` with the records `es` ends in `r` with the records `new`: at once, or by SAFE entry. -/
structure BatchEnds (s : State) (es : List Event) (v r : State) (new : List Event) : Prop where
  mode : r.mode = .run ∨ r.mode = .safe
  collecting : r.collecting = if r.mode = .safe then none else v.collecting
  lane : ∀ m, r.lane m = if r.mode = .safe ∧ v.role m = .probation then (v.lane m).away else v.lane m
  notes : Notes new v r
  point : ∀ p, (r.point p, r.slotPending p) =
    if r.mode = .safe then safeWritten (v.point p, v.slotPending p) else (v.point p, v.slotPending p)
  bank : ∀ b, r.bank b = { v.bank b with pendingSet := (r.bank b).pendingSet }
  links : r.links = v.links
  summary : r.summary = v.summary
  round : r.round = v.round
  part : RoundPart v r
  run : r.mode = .run → new = []
  safe : r.mode = .safe → v.keepsRun = false ∧ ∃ l, (s.role l).voting = true ∧ es.getLast? = some (s.goneRecord l .strikes) ∧
    new = v.safeRecords l (s.goneCode l) v.round (unsafeTargets fun p => (v.point p, v.slotPending p)).length

theorem BatchEnds.open (s : State) (es : List Event) (v : State) (run : v.mode = .run) : BatchEnds s es v v [] where
  mode := .inl run
  collecting := by simp [run]
  lane m := by simp [run]
  notes := .of_log rfl rfl
  point p := by simp [run]
  bank _ := rfl
  links := rfl
  summary := rfl
  round := rfl
  part := rfl
  run _ := rfl
  safe safe := by rw [run] at safe; cases safe

theorem State.enterSafe_part (v : State) (l : Lane) (why : Code) : RoundPart v (v.enterSafe l why) := by
  unfold RoundPart
  rw [v.enterSafe_rest l why]

theorem BatchEnds.safe_entered {s : State} {es : List Event} {v : State} {l : Lane} (last : v.keepsRun = false)
    (voting : (s.role l).voting = true) (ended : es.getLast? = some (s.goneRecord l .strikes)) :
    BatchEnds s es v (v.enterSafe l (s.goneCode l))
      (v.safeRecords l (s.goneCode l) v.round (unsafeTargets fun p => (v.point p, v.slotPending p)).length) where
  mode := .inr (v.enterSafe_mode ..)
  collecting := by simp
  lane m := by simp [State.enterSafe_lane]
  notes := v.enterSafe_notes ..
  point p := by simp [State.enterSafe_point]
  bank b := v.enterSafe_bank ..
  links := v.enterSafe_links ..
  summary := by rw [v.enterSafe_rest]
  round := by rw [v.enterSafe_rest]
  part := v.enterSafe_part ..
  run run := by rw [State.enterSafe_mode] at run; cases run
  safe _ := ⟨last, l, voting, ended, rfl⟩

section ends
variable {s v r : State} {c : Collecting} {cause : CloseCause} {es new : List Event}

/-- Every close is a batch and its end. -/
theorem State.closeRound_ends (run : s.mode = .run) : ∃ es v new,
    Batch s.round (s.closing c cause) (s.findings c (s.votes c)) es v ∧ BatchEnds s es v (s.closeRound c cause) new := by
  cases keeps : s.keepsRun with
  | true =>
    obtain ⟨es, v, batch, ⟨-, eq⟩ | ⟨last, l, voting, ended, eq⟩⟩ := State.closeRound_batched (c := c) (cause := cause) run keeps
    · rw [eq]
      exact ⟨es, v, [], batch, .open s es v (batch.mode.trans ((s.closing_mode c cause).trans run))⟩
    · have code : (s.closing c cause).goneCode l = s.goneCode l := by
        simp only [State.goneCode, State.Suspends, State.closing_lane, State.closing_settings]
      rw [State.closing_role] at voting
      rw [State.goneRecord_closing] at ended
      rw [eq, code]
      exact ⟨es, v, _, batch, .safe_entered last voting ended⟩
  | false =>
    have none_ := State.findings_nil (c := c) keeps
    refine ⟨[], s.closing c cause, [], ?_, ?_⟩
    · rw [none_]
      exact .begin ..
    · rw [State.closeRound_eq, none_]
      exact .open s [] _ ((s.closing_mode c cause).trans run)

variable (batch : Batch s.round (s.closing c cause) (s.findings c (s.votes c)) es v) (ends : BatchEnds s es v r new)
include batch

theorem Batch.found {l : Lane} {f : Finding} (found : s.finding c l = some f) : Promoted (s.judged f) (v.lane l) := by
  have own := (State.finding_spec found).1
  subst own
  have judged := batch.judged f (State.mem_findings.mpr found)
  rwa [State.judged_closing] at judged

theorem Batch.unfound {l : Lane} (unfound : s.finding c l = none) : Promoted (s.lane l) (v.lane l) := by
  have waiting := batch.waiting l fun f hf own => by
    rw [State.mem_findings, own, unfound] at hf
    cases hf
  rwa [State.closing_lane] at waiting

include ends

/-- SAFE is entered from a close only where no lane in PROBATION is judged. -/
theorem BatchEnds.unjudged (safe : r.mode = .safe) {l : Lane} (probation : s.role l = .probation) : s.finding c l = none := by
  by_contra found
  obtain ⟨m, clean⟩ := State.findings_clean probation found
  have voting : ((s.closing c cause).role m).voting = true := by
    rw [State.closing_role]
    exact (State.finding_spec (State.mem_findings.mp clean)).2
  have keeps := batch.keepsRun voting (.inr clean)
  rw [(ends.safe safe).1] at keeps
  cases keeps

theorem BatchEnds.probation_iff (safe : r.mode = .safe) (l : Lane) : v.role l = .probation ↔ s.role l = .probation := by
  constructor
  · intro probation
    cases found : s.finding c l with
    | none => exact ((batch.unfound found).role_iff rfl).mp probation
    | some f =>
      obtain ⟨own, fits⟩ := State.finding_spec found
      subst own
      by_contra other
      have voting : (s.role f.lane).voting = true := by
        cases f with
        | late | dissent | clean => exact fits
        | probClean | probFailed => exact absurd fits other
      exact State.judged_not_probation voting fits (((batch.found found).role_iff rfl).mp probation)
  · intro probation
    have same := (batch.unfound (ends.unjudged batch safe probation)).eq_of_probation probation
    exact (congrArg LaneRec.role same).trans probation

/-- A lane that a finding is about is left as the batch leaves it. -/
theorem BatchEnds.lane_found {l : Lane} {f : Finding} (found : s.finding c l = some f) : r.lane l = v.lane l := by
  rw [ends.lane, if_neg]
  rintro ⟨safe, probation⟩
  rw [ends.unjudged batch safe ((ends.probation_iff batch safe l).mp probation)] at found
  cases found

theorem BatchEnds.lane_unfound {l : Lane} (unfound : s.finding c l = none) (unvoting : (s.role l).voting = false) :
    r.lane l = if r.mode = .safe ∧ s.role l = .probation then (s.lane l).away else s.lane l := by
  have same : v.lane l = s.lane l := (batch.unfound unfound).eq_of_role fun standby => by
    rw [show s.role l = .standby from standby] at unvoting
    cases unvoting
  have role : v.role l = s.role l := congrArg LaneRec.role same
  rw [ends.lane, same, role]

theorem BatchEnds.judged {l : Lane} {f : Finding} (found : s.finding c l = some f) : Promoted (s.judged f) (r.lane l) := by
  rw [ends.lane_found batch found]
  exact batch.found found

end ends

end Sys2Proof.Machine
end

section
/-! The records of a close (R38, R39, R52, R135), in the words of `BatchRecords`. -/

namespace Sys2Proof.Machine

-- One proof after another: elaborated side by side, the proofs of the whole text need more memory than the check gives.
set_option Elab.async false

/-! ## Lists of findings -/

theorem flatMap_filterMap_toList {α β γ : Type} (xs : List α) (g : α → Option β) (h : β → List γ) :
    (xs.filterMap g).flatMap h = xs.flatMap fun x => (g x).toList.flatMap h := by
  induction xs with
  | nil => rfl
  | cons x xs ih =>
    rw [List.flatMap_cons, ← ih]
    cases hx : g x with
    | none => rw [List.filterMap_cons_none hx]; rfl
    | some y => rw [List.filterMap_cons_some hx]; simp

theorem flatMap_filter_eq {α β : Type} (xs : List α) (p : α → Bool) (h : α → List β) :
    (xs.filter p).flatMap h = xs.flatMap fun x => if p x then h x else [] := by
  induction xs with
  | nil => rfl
  | cons x xs ih =>
    rw [List.flatMap_cons, ← ih]
    cases hx : p x <;> simp [hx]

/-! ## The records of the findings -/

section records
variable {n : Nat} {s : State} {c : Collecting} {l : Lane}

theorem State.goneRecord_filter (why : SuspendCause) {codes : List Code} (h : Code.suspended ∉ codes ∧ Code.excluded ∉ codes) :
    [s.goneRecord l why].filter (fun e => e.code ∈ codes) = [] := by
  unfold State.goneRecord
  split <;> simp [h]

theorem State.strikeOut_filter {codes : List Code} (h : Code.suspended ∉ codes ∧ Code.excluded ∉ codes) :
    (s.strikeOut l).filter (fun e => e.code ∈ codes) = [] := by
  unfold State.strikeOut
  split
  · exact State.goneRecord_filter .strikes h
  · rfl

/-- The record that each kind of finding makes, by its code (R36, R37). -/
def kindCodes : Fin 4 → List Code
  | 0 => [.late]
  | 1 => [.dissent]
  | 2 => []
  | 3 => [.qualified, .probationMiss]

theorem State.findingRecords_filter (n : Nat) (s : State) (f : Finding) (k : Fin 4) :
    (s.findingRecords n f).filter (fun e => e.code ∈ kindCodes k) =
      if f.kind = k then (s.findingRecords n f).filter (fun e => e.code ∈ [.late, .dissent, .qualified, .probationMiss]) else [] := by
  have struck (l : Lane) (k : Fin 4) : (s.strikeOut l).filter (fun e => e.code ∈ kindCodes k) = [] :=
    State.strikeOut_filter (by revert k; decide)
  have gone (l : Lane) (k : Fin 4) : [s.goneRecord l .probation].filter (fun e => e.code ∈ kindCodes k) = [] :=
    State.goneRecord_filter .probation (by revert k; decide)
  have struck_all (l : Lane) : (s.strikeOut l).filter (fun e => e.code ∈ [.late, .dissent, .qualified, .probationMiss]) = [] :=
    State.strikeOut_filter (by decide)
  have gone_all (l : Lane) :
      [s.goneRecord l .probation].filter (fun e => e.code ∈ [.late, .dissent, .qualified, .probationMiss]) = [] :=
    State.goneRecord_filter .probation (by decide)
  cases f with
  | late l =>
    rw [State.findingRecords, List.filter_cons, List.filter_cons, struck, struck_all]
    fin_cases k <;> rfl
  | dissent l p m =>
    rw [State.findingRecords, List.filter_cons, List.filter_cons, struck, struck_all]
    fin_cases k <;> rfl
  | clean l => fin_cases k <;> rfl
  | probClean l =>
    rw [State.findingRecords]
    split <;> fin_cases k <;> rfl
  | probFailed l p =>
    rw [State.findingRecords]
    by_cases fails : (s.lane l).probFails + 1 = s.settings.probfail
    · have none_ := gone l k
      have none_all := gone_all l
      rw [if_pos fails]
      generalize [s.goneRecord l .probation] = suspension at none_ none_all ⊢
      rw [List.filter_cons, List.filter_cons, none_, none_all]
      fin_cases k <;> rfl
    · rw [if_neg fails]
      fin_cases k <;> rfl

/-- The records of the findings about one lane. -/
theorem State.findings_lane (s : State) (c : Collecting) (l : Lane) :
    (s.findings c (s.votes c)).filter (fun f => f.lane = l) = (s.finding c l).toList := by
  have about (m : Lane) : (s.finding c m).filter (fun f => decide (f.lane = l)) = if m = l then s.finding c l else none := by
    cases found : s.finding c m with
    | none =>
      split
      next own => rw [← own, found]; rfl
      · rfl
    | some f =>
      have own := (State.finding_spec found).1
      subst own
      by_cases same : f.lane = l
      · rw [if_pos same, ← same, found, Option.filter_some, if_pos (by simp)]
      · rw [if_neg same, Option.filter_some, if_neg (by simpa using same)]
  have found : (s.found c).filter (fun f => f.lane = l) = (s.finding c l).toList := by
    rw [State.found, List.filter_filterMap, List.filterMap_congr fun m _ => about m]
    cases s.finding c l <;> cases l <;> rfl
  have perm := (s.findings_perm c).filter fun f => decide (f.lane = l)
  rw [found] at perm
  cases h : s.finding c l with
  | none =>
    rw [h] at perm
    exact perm.eq_nil
  | some f =>
    rw [h] at perm
    exact List.perm_singleton.mp perm

theorem State.closeRecords_flatMap (s : State) (c : Collecting) (q : Event → Bool) :
    Lane.all.flatMap (fun l => (s.closeRecords c l).filter q) =
      (s.found c).flatMap fun f => (s.findingRecords s.round f).filter q := by
  rw [State.found, flatMap_filterMap_toList]
  refine List.flatMap_congr fun l _ => ?_
  rw [← State.findingRecords_finding, List.filter_flatMap]

/-- The records of the findings come in the order of the batch (R38). -/
theorem State.findings_order (s : State) (c : Collecting) : (s.findings c (s.votes c)).flatMap (fun f =>
      (s.findingRecords s.round f).filter fun e => e.code ∈ [.late, .dissent, .qualified, .probationMiss]) =
    [[Code.late], [.dissent], [.qualified, .probationMiss]].flatMap fun kinds =>
      Lane.all.flatMap fun l => (s.closeRecords c l).filter fun e => e.code ∈ kinds := by
  have kind (k : Fin 4) : ((s.found c).filter fun f => f.kind = k).flatMap (fun f =>
      (s.findingRecords s.round f).filter fun e => e.code ∈ [.late, .dissent, .qualified, .probationMiss]) =
      Lane.all.flatMap fun l => (s.closeRecords c l).filter fun e => e.code ∈ kindCodes k := by
    rw [flatMap_filter_eq, State.closeRecords_flatMap]
    refine List.flatMap_congr fun f _ => ?_
    rw [State.findingRecords_filter]
    simp
  rw [State.findings_eq, List.flatMap_append, List.flatMap_append, List.flatMap_append, kind, kind, kind, kind]
  simp [kindCodes]

end records

/-! ## The records of the batch and its end -/

section batch
variable {n : Nat} {b u : State} {done : List Finding} {es : List Event}

theorem Batch.point (h : Batch n b done es u) (p : PointNo) : u.point p = b.point p := by rw [h.rest]; rfl
theorem Batch.slotPending (h : Batch n b done es u) (p : PointNo) : u.slotPending p = b.slotPending p := by rw [h.rest]; rfl
theorem Batch.bank (h : Batch n b done es u) (c : BankNo) : u.bank c = b.bank c := by rw [h.rest]; rfl
theorem Batch.links (h : Batch n b done es u) : u.links = b.links := by rw [h.rest]
theorem Batch.summary (h : Batch n b done es u) : u.summary = b.summary := by rw [h.rest]

theorem Batch.part (h : Batch n b done es u) : RoundPart b u := by
  unfold RoundPart
  rw [h.rest]

/-- What a batch's records other than CONTROL are. -/
theorem Batch.filter (h : Batch n b done es u) (q : Event → Bool) (no_control : ∀ e, q e = true → e.code ≠ .control) :
    es.filter q = done.flatMap fun f => (b.findingRecords n f).filter q := by
  have both : es.filter q = (es.filter fun e => e.code ≠ .control).filter q := by
    rw [List.filter_filter]
    refine List.filter_congr fun e _ => ?_
    cases he : q e with
    | false => rfl
    | true => simpa using no_control e he
  rw [both, h.records, List.filter_flatMap]

theorem Batch.mem (h : Batch n b done es u) {e : Event} (he : e ∈ es) :
    e.lane ≠ none ∧ e.code ≠ .left ∧ e.code ≠ .safeEntered := by
  by_cases control : e.code = .control
  · obtain ⟨named, -⟩ := h.control e he control
    refine ⟨named, ?_, ?_⟩ <;> rw [control] <;> decide
  · have mem : e ∈ es.filter fun e => e.code ≠ .control := List.mem_filter.mpr ⟨he, by simpa using control⟩
    rw [h.records] at mem
    obtain ⟨f, -, hf⟩ := List.mem_flatMap.mp mem
    obtain ⟨lane, -, left, entered⟩ := State.of_mem_findingRecords hf
    exact ⟨by rw [lane]; exact Option.some_ne_none _, left, entered⟩

end batch

/-- The records of a SAFE entry (R66, R135). -/
theorem State.of_mem_safeRecords {s : State} {l : Lane} {why : Code} {round changed : Nat} {e : Event}
    (h : e ∈ s.safeRecords l why round changed) : e.lane ≠ none ∧ (e.code = .left ∨ e.code = .safeEntered) := by
  obtain h | h := List.mem_append.mp h
  · obtain ⟨m, -, rfl⟩ := List.mem_map.mp h
    exact ⟨Option.some_ne_none m, .inl rfl⟩
  · rw [List.mem_singleton.mp h]
    exact ⟨Option.some_ne_none l, .inr rfl⟩

section ends
variable {s v r : State} {c : Collecting} {cause : CloseCause} {es new : List Event}
variable (batch : Batch s.round (s.closing c cause) (s.findings c (s.votes c)) es v) (ends : BatchEnds s es v r new)
include ends

theorem BatchEnds.mem {e : Event} (he : e ∈ new) : e.lane ≠ none ∧ (e.code = .left ∨ e.code = .safeEntered) := by
  obtain run | safe := ends.mode
  · rw [ends.run run] at he
    cases he
  · obtain ⟨-, l, -, -, rfl⟩ := ends.safe safe
    exact State.of_mem_safeRecords he

theorem BatchEnds.filter (q : Event → Bool) (others : ∀ e, q e = true → e.code ≠ .left ∧ e.code ≠ .safeEntered) :
    (es ++ new).filter q = es.filter q := by
  have none_ : new.filter q = [] := List.filter_eq_nil_iff.mpr fun e he hq => by
    obtain ⟨left, entered⟩ := others e hq
    obtain ⟨-, code | code⟩ := ends.mem he
    · exact left code
    · exact entered code
  rw [List.filter_append, none_, List.append_nil]

include batch

/-- The records of the batch of findings of a close and of its end. -/
theorem BatchEnds.batchRecords {t : State} (mode : t.mode = r.mode) (roles : ∀ m, t.role m = r.role m) (round : t.round = r.round) :
    BatchRecords s c t (es ++ new) where
  lanes l := by
    rw [ends.filter _ fun e he => ?others, batch.filter _ fun e he => ?control]
    case others =>
      simp only [List.mem_cons, not_or, List.not_mem_nil, decide_eq_true_eq] at he
      exact ⟨he.2.2.1, he.2.2.2.1⟩
    case control =>
      simp only [List.mem_cons, not_or, List.not_mem_nil, decide_eq_true_eq] at he
      exact he.2.1
    have each (f : Finding) : ((s.closing c cause).findingRecords s.round f).filter
        (fun e => decide (e.lane = some l ∧ e.code ∉ [.control, .left, .safeEntered])) =
        if decide (f.lane = l) then s.findingRecords s.round f else [] := by
      rw [State.findingRecords_closing]
      by_cases own : f.lane = l
      · rw [if_pos (by simpa using own)]
        refine List.filter_eq_self.mpr fun e he => ?_
        obtain ⟨lane, control, left, entered⟩ := State.of_mem_findingRecords he
        simp [lane, own, control, left, entered]
      · rw [if_neg (by simpa using own)]
        refine List.filter_eq_nil_iff.mpr fun e he => ?_
        obtain ⟨lane, -⟩ := State.of_mem_findingRecords he
        simp [lane, own]
    rw [List.flatMap_congr fun f _ => each f, ← flatMap_filter_eq, State.findings_lane, State.findingRecords_finding]
  order := by
    rw [ends.filter _ fun e he => ?others, batch.filter _ fun e he => ?control, ← State.findings_order]
    case others | control =>
      simp only [decide_eq_true_eq, List.mem_cons, List.not_mem_nil, or_false] at he
      obtain code | code | code | code := he <;> rw [code] <;> decide
    simp only [State.findingRecords_closing]
  named e he := by
    obtain he | he := List.mem_append.mp he
    · exact (batch.mem he).1
    · exact (ends.mem he).1
  control e he code := by
    obtain he | he := List.mem_append.mp he
    · rw [round, ends.round, batch.round]
      exact (batch.control e he code).2
    · obtain ⟨-, other | other⟩ := ends.mem he <;> rw [code] at other <;> cases other
  holder m hm := by
    rw [roles, State.role, ends.lane] at hm
    obtain run | safe := ends.mode
    · have running : ¬ (r.mode = .safe ∧ v.role m = .probation) := by
        rw [run]
        rintro ⟨⟨⟩, -⟩
      rw [if_neg running] at hm
      rw [ends.run run, List.append_nil, ← State.closing_role s c cause]
      exact batch.holder m hm
    · have out := State.keepsRun_eq_false_iff.mp (ends.safe safe).1 m
      split at hm
      · cases hm
      · rw [State.role, hm] at out
        exact absurd out.1 (by decide)
  run running e he := by
    rw [ends.run (mode.symm.trans running), List.append_nil] at he
    exact (batch.mem he).2
  safe entered := by
    have entered := mode.symm.trans entered
    obtain ⟨-, l, voting, ended, eq⟩ := ends.safe entered
    have dismissed : v.safeRecords l (s.goneCode l) v.round
        (unsafeTargets fun p => (v.point p, v.slotPending p)).length =
        s.safeRecords l (s.goneCode l) t.round (unsafeTargets (s.voted c)).length := by
      have probation : (Lane.all.filter fun m => v.role m = .probation) = Lane.all.filter fun m => s.role m = .probation :=
        List.filter_congr fun m _ => by simp only [ends.probation_iff batch entered m]
      have points : (fun p => (v.point p, v.slotPending p)) = s.voted c := by
        funext p
        rw [batch.point, batch.slotPending, State.closing_point]
      rw [State.safeRecords, probation, points, round, ends.round]
      rfl
    exact ⟨l, es, voting, ended, by rw [eq, dismissed], fun e he => (batch.mem he).2⟩

end ends

end Sys2Proof.Machine
end

section
/-! The close of a round whole: `Closed`. -/

namespace Sys2Proof.Machine

-- One proof after another: elaborated side by side, the proofs of the whole text need more memory than the check gives.
set_option Elab.async false

/-! ## The result of a point -/

section result
variable {s : State} {c : Collecting} {p : PointNo} {d : PointDef} {old : Nat}

theorem State.voted_eq (defn : (s.point p).defn = some d) (target : (s.point p).target = some old) :
    s.voted c p = takeResult s.round (s.voteAt c p d.tol old) (s.point p) (s.slotPending p) := by
  rw [State.voted, defn, target]

/-- The target and last change round that the result of a close leaves (R10, R35). -/
theorem State.voted_target (defn : (s.point p).defn = some d) (target : (s.point p).target = some old)
    (inert : (s.point p).state ≠ .inert) (undefined : (s.point p).state ≠ .undefined) :
    (s.voted c p).1.target = some ((s.voteAt c p d.tol old).target.getD old) ∧
      (s.voted c p).1.changed =
        if (s.voteAt c p d.tol old).target.getD old = old then (s.point p).changed else some s.round := by
  rw [State.voted_eq defn target]
  cases result : (s.voteAt c p d.tol old).target with
  | none =>
    rw [takeResult_none _ _ _ result, Option.getD_none, if_pos rfl]
    exact ⟨target, rfl⟩
  | some v =>
    rw [takeResult_some _ _ _ result, Option.getD_some, target]
    refine ⟨writeTarget_target _ inert undefined, ?_⟩
    simp only [Option.some.injEq, eq_comm]

theorem State.voted_splits (defn : (s.point p).defn = some d) (target : (s.point p).target = some old) :
    (s.voted c p).1.splits =
      if (s.voteAt c p d.tol old).outcome = .nomajority ∨ (s.voteAt c p d.tol old).outcome = .split
      then min ((s.point p).splits + 1) 65535 else (s.point p).splits := by
  have taken : (s.voted c p).1.splits = if (s.voteAt c p d.tol old).outcome.splits then
      min ((s.point p).splits + 1) Config.maxSplits else (s.point p).splits := by
    rw [State.voted_eq defn target]
    cases result : (s.voteAt c p d.tol old).target with
    | none => rw [takeResult_none _ _ _ result]
    | some v => rw [takeResult_some _ _ _ result]
  rw [taken]
  simp only [VoteOutcome.splits_iff]
  rfl

end result

theorem safeWritten_splits (x : PointRec × Bool) : (safeWritten x).1.splits = x.1.splits := by
  unfold safeWritten
  cases x.1.defn with
  | none => rfl
  | some d =>
    dsimp only
    split
    · rfl
    · exact writeTarget_splits ..

/-! ## The close -/

/-- The summary of a close (R41). -/
theorem State.summarised (s : State) (c : Collecting) (cause : CloseCause) :
    ∃ m, some (s.summarise c (s.votes c) cause) = some m ∧ m.round = s.round ∧ m.cause = cause ∧ m.time = s.now ∧
      (∀ l, m.voters.get l = ((s.role l).voting && c.sealed.get l)) ∧
      (∀ l, m.late.get l = ((s.role l).voting && !c.sealed.get l)) ∧
      (∀ l, m.dissenters.get l = ((s.role l).voting && c.sealed.get l && !(s.dissentedOn c l).isEmpty)) ∧
      m.changed = (s.votedWhere c fun _ _ old v => v.target.getD old ≠ old).length ∧
      m.nomajority = (s.votedWhere c fun _ _ _ v => v.outcome = .nomajority).length ∧
      m.split = (s.votedWhere c fun _ _ _ v => v.outcome = .split).length := by
  rw [← State.changedBy_votes, ← State.where_votes s c fun v => v.outcome = .nomajority,
    ← State.where_votes s c fun v => v.outcome = .split]
  refine ⟨_, rfl, rfl, rfl, rfl, s.voters_get c, s.lateLanes_get c, s.dissenters_get c, ?_, ?_, ?_⟩ <;>
    simp only [State.summarise]

/-- The close of a round in RUN, after which the link controllers choose. -/
theorem State.closed (s : State) (c : Collecting) (cause : CloseCause) (run : s.mode = .run) :
    Closed s c cause (s.closeRound c cause).serveLinks := by
  obtain ⟨es, v, new, batch, ends⟩ := State.closeRound_ends (c := c) (cause := cause) run
  generalize s.closeRound c cause = r at ends ⊢
  have served := Served.serveLinks r
  have kept : BanksPart r r.serveLinks := served.rest
  generalize r.serveLinks = t at served kept ⊢
  have point (p : PointNo) : (r.point p, r.slotPending p) =
      if r.mode = .safe then safeWritten (s.voted c p) else s.voted c p := by
    rw [ends.point, batch.point, batch.slotPending, State.closing_point]
  have judged {l : Lane} {f : Finding} (found : s.finding c l = some f) : Promoted (s.judged f) (t.lane l) := by
    rw [kept.lane]
    exact ends.judged batch found
  have notes := ((s.closing_notes c cause).trans batch.notes).trans ends.notes
  refine {
    summary := ?summary
    round := ?round
    next := fun running => ?next
    discarded := fun left => ?discarded
    results := ⟨r, served, ?links, fun p => ?point, fun b => ?bank⟩
    targets := fun running p d old defn target inert undefined => ?targets
    splits := fun p d old defn target => ?splits
    late := fun l voting unsealed => ?late
    dissent := fun l voting joined dissents => ?dissent
    clean := fun l voting joined agrees => ?clean
    passed := fun l probation judges joined agrees => ?passed
    missed := fun l probation judges fails => ?missed
    unjudged := fun l probation judges => ?unjudged
    outside := fun l unseated => ?outside
    records := ⟨es ++ new, ends.batchRecords batch kept.mode kept.role kept.round, ?records⟩
    rest := ?rest }
  case summary =>
    rw [kept.summary, ends.summary, batch.summary, State.closing_summary]
    exact s.summarised c cause
  case round =>
    rw [kept.round, ends.round, batch.round, State.closing_round]
    rfl
  case next =>
    rw [kept.mode] at running
    rw [kept.collecting, ends.collecting, running, if_neg (by decide), batch.collecting, State.closing_collecting]
  case discarded =>
    rw [kept.mode] at left
    have safe : r.mode = .safe := ends.mode.resolve_left left
    rw [kept.mode, kept.collecting, ends.collecting, if_pos safe]
    exact ⟨safe, rfl⟩
  case links => rw [ends.links, batch.links, State.closing_links]
  case point => rw [kept.mode, point]
  case bank =>
    rw [ends.bank, batch.bank, State.closing_bank]
  case targets =>
    rw [kept.mode] at running
    have result := point p
    rw [running, if_neg (by decide)] at result
    rw [served.point_target, served.point_changed, show r.point p = (s.voted c p).1 from congrArg Prod.fst result]
    exact State.voted_target defn target inert undefined
  case splits =>
    have result : r.point p = (if r.mode = .safe then safeWritten (s.voted c p) else s.voted c p).1 := congrArg Prod.fst (point p)
    rw [served.point_splits, result, ← State.voted_splits defn target]
    split
    · exact safeWritten_splits _
    · rfl
  case late => exact struck_of_promoted (judged (State.finding_late voting unsealed))
  case dissent =>
    obtain ⟨p, ps, eq⟩ := List.exists_cons_of_ne_nil dissents
    exact struck_of_promoted (judged (State.finding_dissent voting joined eq))
  case clean => exact cleaned_of_promoted (judged (State.finding_clean voting joined agrees))
  case passed => exact passed_of_promoted probation (judged (State.finding_probClean probation judges joined agrees))
  case missed => exact missed_of_promoted probation (judged (State.finding_probFailed probation judges fails))
  case unjudged =>
    have unvoting : (s.role l).voting = false := by rw [probation]; rfl
    rw [kept.lane, kept.mode, ends.lane_unfound batch (State.finding_none unvoting fun _ => judges) unvoting]
    simp only [probation, and_true]
  case outside =>
    have unvoting : (s.role l).voting = false := by
      cases role : s.role l <;> rw [role] at unseated <;> first | rfl | cases unseated
    have other : s.role l ≠ .probation := fun probation => by rw [probation] at unseated; cases unseated
    rw [kept.lane, ends.lane_unfound batch (State.finding_none unvoting fun h => absurd h other) unvoting, if_neg]
    exact fun h => other h.2
  case records =>
    rw [kept.log, notes.log, List.append_assoc]
    rfl
  case rest => exact ((s.closing_part c cause).trans batch.part).trans (ends.part.trans kept.roundPart)

end Sys2Proof.Machine
end

section
/-! A lane's departure from the vote (R27, R28, R63, R64, R66): what it does before the close condition, and how it ends. -/

namespace Sys2Proof.Machine

-- One proof after another: elaborated side by side, the proofs of the whole text need more memory than the check gives.
set_option Elab.async false

/-! ## Withdrawal and control -/

section departing
variable {s : State} {l : Lane} {c : Collecting}

theorem State.withdraw_eq (collects : s.collecting = some c) : s.withdraw l = { s with collecting := some (c.without l) } := by
  unfold State.withdraw
  rw [collects]
  rfl

theorem State.departing_eq (collects : s.collecting = some c) : (s.withdraw l).assignControl = s.departing c l := by
  rw [State.withdraw_eq collects, State.assignControl_eq]
  unfold State.departing
  dsimp only
  cases State.heir { s with collecting := some (c.without l) } <;> rfl

variable (s c l)

theorem State.departing_heir : s.departing c l = match s.heir with
    | none => { s with collecting := some (c.without l) }
    | some n => (({ s with collecting := some (c.without l) }).setLane n { s.lane n with role := .inControl }).append
        { code := .control, lane := some n, round := some s.round, cause := some .assign } := by
  have heir : State.heir { s with collecting := some (c.without l) } = s.heir := rfl
  unfold State.departing
  dsimp only
  rw [heir]
  cases s.heir <;> rfl

theorem State.departing_promoted (m : Lane) : Promoted (s.lane m) ((s.departing c l).lane m) := by
  have promoted := State.assignControl_promoted { s with collecting := some (c.without l) } m
  have departs : ({ s with collecting := some (c.without l) }).assignControl = s.departing c l := by
    rw [State.assignControl_eq, State.departing_heir]
    have heir : State.heir { s with collecting := some (c.without l) } = s.heir := rfl
    rw [heir]
    cases s.heir <;> rfl
  rw [departs] at promoted
  exact promoted

theorem State.departing_voting (m : Lane) : ((s.departing c l).role m).voting = (s.role m).voting :=
  (s.departing_promoted l c m).voting

theorem State.departing_held (m : Lane) : (s.departing c l).role m = .held ↔ s.role m = .held :=
  (s.departing_promoted l c m).role_iff rfl

@[simp] theorem State.departing_mode : (s.departing c l).mode = s.mode := by
  rw [State.departing_heir]
  cases s.heir <;> rfl

@[simp] theorem State.departing_collecting : (s.departing c l).collecting = some (c.without l) := by
  rw [State.departing_heir]
  cases s.heir <;> rfl

/-- With control held by another lane, or no STANDBY lane to take it, a departure only withdraws the contribution. -/
theorem State.departing_of_no_heir (h : s.heir = none) : s.departing c l = { s with collecting := some (c.without l) } := by
  rw [State.departing_heir, h]

end departing

/-! ## The close condition -/

section ready
variable {s : State} {c : Collecting} {l : Lane}

theorem State.ready_eq_true {m : Lane} (voting : (s.role m).voting = true)
    (all_sealed : ∀ n, (s.role n).voting = true → c.sealed.get n = true) : s.ready c = true := by
  rw [State.ready, Bool.and_eq_true, List.any_eq_true, List.all_eq_true]
  refine ⟨⟨m, Lane.mem_all m, by rw [voting, all_sealed m voting]; rfl⟩, fun n _ => ?_⟩
  cases votes : (s.role n).voting with
  | false => rfl
  | true => exact all_sealed n votes

theorem Collecting.without_sealed {m : Lane} (other : m ≠ l) : (c.without l).sealed.get m = c.sealed.get m :=
  PerLane.get_set_ne _ _ _ _ other

/-- A round that closes leaves a lane that votes or is HELD, or SAFE. -/
theorem State.closeRound_keeps {cause : CloseCause} (run : s.mode = .run) (keeps : s.keepsRun = true) (why : Code) :
    (s.closeRound c cause).safeCheck l why = s.closeRound c cause := by
  obtain ⟨es, v, -, ⟨stays, eq⟩ | ⟨-, m, -, -, eq⟩⟩ := State.closeRound_batched (c := c) (cause := cause) run keeps
  · obtain ⟨m, stays⟩ := State.keepsRun_iff.mp stays
    rw [eq]
    exact State.safeCheck_keeps stays
  · refine if_neg fun h => ?_
    rw [eq, State.enterSafe_mode] at h
    cases h.1

end ready

/-! ## The end of a departure -/

/-- How a departure ends, once the lane's new record and the record of its leaving stand. -/
theorem State.departed_ends {s : State} {c : Collecting} {l : Lane} {why : Code} (run : s.mode = .run)
    (collects : s.collecting = some c) (out : (s.role l).voting = false) (code : s.role l = .held ∨ s.endingCode l = why) :
    DepartureEnds s c l why (s.departed l) := by
  have departed : s.departed l =
      (((s.departing c l).closeIfReady .departure).safeCheck l (s.endingCode l)).serveLinks := by
    rw [State.departed, State.departing_eq collects]
  have unready (h : s.StillOpen c l ∨ ∀ m, (s.role m).voting = false) :
      (s.departing c l).closeIfReady .departure = s.departing c l := by
    unfold State.closeIfReady
    rw [State.departing_collecting]
    refine if_neg (ne_true_of_eq_false (State.ready_eq_false (h.imp ?_ fun none_ m => ?_)))
    · rintro ⟨m, other, voting, unsealed⟩
      exact ⟨m, by rwa [State.departing_voting], by rwa [Collecting.without_sealed other]⟩
    · rw [State.departing_voting]
      exact none_ m
  have stays {m : Lane} (h : (s.role m).voting = true ∨ s.role m = .held) :
      ((s.departing c l).role m).voting = true ∨ (s.departing c l).role m = .held := by
    rwa [State.departing_voting, State.departing_held]
  refine ⟨fun unsealed => ?unsealed, fun ⟨m, voting⟩ closed => ?allSealed, fun none_ ⟨m, held⟩ => ?held, fun last => ?last⟩
  case unsealed =>
    obtain ⟨m, -, voting, -⟩ := id unsealed
    rw [departed, unready (.inl unsealed), State.safeCheck_keeps (stays (.inl voting))]
    exact .serveLinks _
  case held =>
    rw [departed, unready (.inr none_), State.safeCheck_keeps (stays (.inr held))]
    exact .serveLinks _
  case last =>
    have ending : s.endingCode l = why := code.resolve_left (last l).2
    rw [departed, unready (.inr fun m => (last m).1), ending, State.safeCheck_last (by rwa [State.departing_mode])]
    · exact State.safeEntered ..
    · intro m
      rw [State.departing_voting, ne_eq, State.departing_held]
      exact last m
  case allSealed =>
    have ready : (s.departing c l).ready (c.without l) = true := by
      refine State.ready_eq_true (m := m) (by rwa [State.departing_voting]) fun n votes => ?_
      rw [State.departing_voting] at votes
      have other : n ≠ l := by
        rintro rfl
        rw [out] at votes
        cases votes
      rw [Collecting.without_sealed other]
      by_contra unsealed
      exact closed ⟨n, other, votes, by simpa using unsealed⟩
    have closes : (s.departing c l).closeIfReady .departure = (s.departing c l).closeRound (c.without l) .departure := by
      unfold State.closeIfReady
      rw [State.departing_collecting]
      exact if_pos ready
    have run : (s.departing c l).mode = .run := by rwa [State.departing_mode]
    rw [departed, closes, State.closeRound_keeps run (State.keepsRun_iff.mpr ⟨m, stays (.inl voting)⟩)]
    exact State.closed _ _ _ run

end Sys2Proof.Machine
end

section
/-! The statements about departures and closes: LEAVE, SEAL, the round timer, quiet expiry and power loss. -/

namespace Sys2Proof.Machine

-- One proof after another: elaborated side by side, the proofs of the whole text need more memory than the check gives.
set_option Elab.async false

/-! ## SAFE entry, point by point -/

theorem writeTarget_applied (v : Nat) (r : PointRec) (member : Bool) : (writeTarget v r member).1.applied = r.applied := by
  unfold writeTarget
  split
  · rfl
  · split
    case h_2 => split <;> rfl
    all_goals rfl

theorem safeWritten_applied (x : PointRec × Bool) : (safeWritten x).1.applied = x.1.applied := by
  unfold safeWritten
  cases x.1.defn with
  | none => rfl
  | some d =>
    dsimp only
    split
    · rfl
    · exact writeTarget_applied ..

theorem safeWritten_changed {r : PointRec} {member : Bool} {d : PointDef} (defn : r.defn = some d) :
    (safeWritten (r, member)).1.changed = if r.target = some d.safe then r.changed else none := by
  unfold safeWritten
  simp only [defn]
  split <;> rfl

/-- The record that SAFE entry makes last (R135). -/
theorem State.last_safeRecords (s t : State) (l : Lane) (why : Code) (round changed : Nat) :
    ((t.safeRecords l why round changed).foldl State.append s).log.ring.getLast?.map Record.event =
      some { code := .safeEntered, lane := some l, round := some round, cause := some (.code why), values := [changed] } := by
  rw [State.safeRecords, List.foldl_append]
  simp [FaultLog.append]

/-! ## LEAVE -/

section leave
variable {s : State} {dt : Nat} {l : Lane} {q : Byte} {c : Collecting} {fields : List Text}

theorem Role.seated_of_voting {r : Role} (voting : r.voting = true) : r.seated = true := by
  cases r <;> first | rfl | cases voting

theorem State.leaveVote_eq (s : State) (dt : Nat) (l : Lane) (q : Byte) :
    (s.taking dt l q).leaveVote l = (s.taking dt l q).leaving l (s.lane l) := by
  obtain ⟨x, lane⟩ := s.taking_lane_quiet dt l l q
  rw [State.leaveVote, State.leaving, lane]
  rfl

theorem handleLeave_count (some_field : fields ≠ []) : handleLeave l fields s = (s, no "FIELD" [asc "COUNT"]) := if_pos some_field

theorem handleLeave_role (role : (s.role l).seated = false) : handleLeave l [] s = (s, no "ROLE" [roleText (s.role l)]) := by
  rw [handleLeave, if_neg (not_not.mpr rfl), if_pos role]

theorem handleLeave_accepted (seated : (s.role l).seated = true) :
    handleLeave l [] s = ((s.leaveVote l).vacated l (s.role l), [asc "OK", asc "LEFT"]) := by
  rw [handleLeave, if_neg (not_not.mpr rfl), if_neg (by rw [seated]; decide)]

theorem State.leaving_role (s : State) (l : Lane) (r : LaneRec) (m : Lane) :
    (s.leaving l r).role m = if m = l then .absent else s.role m := by
  unfold State.leaving State.role State.lane
  rw [State.append_lanes, PerLane.get_set]
  split <;> rfl

/-- A voter's LEAVE is the departure of `departed_ends`. -/
theorem State.leave_ends (run : s.mode = .run) (collects : s.collecting = some c) (r : LaneRec) :
    DepartureEnds (s.leaving l r) c l .left ((s.leaving l r).departed l) := by
  have role : (s.leaving l r).role l = .absent := by rw [State.leaving_role, if_pos rfl]
  refine State.departed_ends run collects (by rw [role]; rfl) (.inr ?_)
  unfold State.endingCode
  rw [role]

theorem exec_leave_voter (hs : s.Expects l q) (voting : (s.role l).voting = true) :
    exec (.leave dt l q []) s = .next ((((s.taking dt l q).leaving l (s.lane l)).departed l).answered l q
      (requestText q (verbText .leave) []) [asc "OK", asc "LEFT"]) := by
  have seated := Role.seated_of_voting voting
  refine exec_handled (v := .leave) hs.1 (.inr hs.2) (.inl (Role.ne_excluded_of_seated seated)) ?_
  have accepted := handleLeave_accepted (s := s.taking dt l q) (l := l) (by rwa [State.taking_role])
  rw [State.leaveVote_eq, State.taking_role, State.vacated, voting, if_pos rfl] at accepted
  exact accepted

/-- Settles O25: a voter's LEAVE is a departure, a PROBATION lane's a withdrawal, and every other LEAVE is refused by its handler. -/
theorem leaveLeaves : Obligations.LeaveLeaves := by
  intro s dt l q hs line left
  refine ⟨fun c collects probation => ?probation, fun c run collects voting => ?voter, fun unseated included => ?role,
    fun f fs included => ?count⟩
  case probation =>
    have seated : (s.role l).seated = true := by rw [probation]; rfl
    refine exec_handled (v := .leave) hs.1 (.inr hs.2) (.inl (Role.ne_excluded_of_seated seated)) ?_
    have accepted := handleLeave_accepted (s := s.taking dt l q) (l := l) (by rwa [State.taking_role])
    rw [State.leaveVote_eq, State.taking_role, State.vacated, probation, if_neg (by decide),
      State.withdraw_eq (s := (s.taking dt l q).leaving l (s.lane l)) (c := c) collects] at accepted
    exact accepted
  case voter => exact ⟨_, exec_leave_voter hs voting, State.leave_ends (s := s.taking dt l q) run collects _⟩
  case role =>
    refine exec_handled (v := .leave) hs.1 (.inr hs.2) (.inl included) ?_
    have refused := handleLeave_role (s := s.taking dt l q) (l := l) (by rwa [State.taking_role])
    rw [State.taking_role] at refused
    exact refused
  case count =>
    exact exec_handled (v := .leave) hs.1 (.inr hs.2) (.inl included) (handleLeave_count (List.cons_ne_nil f fs))

/-- Settles O26: the departure of the last voter is the SAFE entry of `leave_ends`. -/
theorem lastVoterEntersSafe : Obligations.LastVoterEntersSafe := by
  intro s dt l q c hs run collects control last live
  have voting : (s.role l).voting = true := by rw [control]; rfl
  have roles (m : Lane) : (((s.taking dt l q).leaving l (s.lane l)).role m).voting = false ∧
      ((s.taking dt l q).leaving l (s.lane l)).role m ≠ .held := by
    rw [State.leaving_role]
    split
    · exact ⟨rfl, by decide⟩
    · rw [State.taking_role]
      exact last m ‹_›
  have ends := (State.leave_ends (s := s.taking dt l q) (l := l) run collects (s.lane l)).last roles
  have vacant : ((s.taking dt l q).leaving l (s.lane l)).heir = none :=
    State.heir_of_not_keepsRun (State.keepsRun_eq_false_iff.mpr roles)
  rw [State.departing_of_no_heir _ _ _ vacant] at ends
  refine ⟨_, exec_leave_voter hs voting, ends, ends.mode, ends.collecting, ?round, ?summary, fun p d defn => ?point, ?record⟩
  case round => rw [ends.rest]; rfl
  case summary => rw [ends.rest]; rfl
  case point =>
    obtain ⟨inert, undefined⟩ := live p d defn
    obtain ⟨u, served, -, written, -⟩ := ends.written
    have point : u.point p = (safeWritten (s.point p, s.slotPending p)).1 := congrArg Prod.fst (written p)
    refine ⟨ends.targets p d defn inert undefined, ?_, ?_, ?_⟩
    · rw [served.point_applied, point, safeWritten_applied]
    · rw [served.point_splits, point, safeWritten_splits]
    · rw [served.point_changed, point, safeWritten_changed defn]
  case record =>
    have off_safe (r : PointRec) : (r.defn.isSome && decide (r.target ≠ r.defn.map PointDef.safe)) =
        decide (r.defn.isSome = true ∧ r.target ≠ r.defn.map PointDef.safe) := by
      rw [Bool.decide_and, Bool.decide_eq_true]
    rw [ends.log, State.last_safeRecords]
    refine congrArg some (congrArg _ (congrArg (fun ps : List PointNo => [ps.length]) (List.filter_congr fun p _ => ?_)))
    exact off_safe (s.point p)

end leave

end Sys2Proof.Machine
end

section
/-! The statements about SEAL, the round timer, quiet expiry, power loss and discarded lines: each is a close or a departure. -/

namespace Sys2Proof.Machine

-- One proof after another: elaborated side by side, the proofs of the whole text need more memory than the check gives.
set_option Elab.async false

/-! ## What a close does not look at -/

section
variable (s : State) (c : Collecting) (cause : CloseCause)

/-- A close looks at the stages and the seal set of its round alone, and at no other round. -/
theorem State.closeRound_collecting (x : Option Collecting) :
    ({ s with collecting := x }).closeRound c cause = s.closeRound c cause := by
  have votes : ({ s with collecting := x }).votes c = s.votes c := by
    unfold State.votes
    exact congrArg Vector.ofFn (funext fun p => rfl)
  have summary (vs : Votes) : ({ s with collecting := x }).summarise c vs cause = s.summarise c vs cause := rfl
  have findings (vs : Votes) : ({ s with collecting := x }).findings c vs = s.findings c vs := rfl
  have resulted : ({ s with collecting := x }).resulted c = { s.resulted c with collecting := x } := by
    unfold State.resulted
    rw [votes]
    unfold State.updatePoints
    rfl
  have outcomes : (({ s with collecting := x }).closeOutcomes c).foldl State.append { s with collecting := x } =
      { (s.closeOutcomes c).foldl State.append s with collecting := x } := by
    have same : ({ s with collecting := x }).closeOutcomes c = s.closeOutcomes c := rfl
    rw [same, foldl_append_eq, foldl_append_eq s, foldl_append_log (s := s) (t := { s with collecting := x }) _ rfl rfl]
  have closing : ({ s with collecting := x }).closing c cause = s.closing c cause := by
    rw [State.closing_eq, State.closing_eq, resulted, outcomes, votes, summary]
  rw [State.closeRound_eq, State.closeRound_eq, closing, votes, findings]

theorem State.closeRound_timer (x : Option Moment) : s.closeRound { c with timer := x } cause = s.closeRound c cause := by
  have votes : s.votes { c with timer := x } = s.votes c := by
    unfold State.votes
    exact congrArg Vector.ofFn (funext fun p => rfl)
  have summary (vs : Votes) : s.summarise { c with timer := x } vs cause = s.summarise c vs cause := rfl
  have findings (vs : Votes) : s.findings { c with timer := x } vs = s.findings c vs := rfl
  have closing : s.closing { c with timer := x } cause = s.closing c cause := by
    unfold State.closing State.closeVotes
    rw [votes, summary]
  rw [State.closeRound_eq, State.closeRound_eq, closing, votes, findings]

end

/-- Settles O19: the round that the last voter's SEAL makes ready closes at once. -/
theorem sealCloses : Obligations.SealCloses := by
  intro s dt l q c tr hs run collects voting unsealed number others
  have seated := Role.seated_of_voting voting
  have check : (s.taking dt l q).roundCheck l s.round = .ok c :=
    State.roundCheck_eq_ok run collects (by simpa using seated) unsealed
  refine ⟨((s.taking dt l q).closeRound { c with sealed := c.sealed.set l true } .sealed).serveLinks, ?_,
    State.closed _ _ _ run⟩
  refine exec_handled (v := .seal) hs.1 (.inr hs.2) (.inl (Role.ne_excluded_of_seated seated))
    ((handleSeal_accepted (oneField_read _ _ _ number) check).trans ?_)
  have ready (x : Option Collecting) (y : Moment) :
      ({ s.taking dt l q with collecting := x }).ready (c.seal l y) = true := by
    refine State.ready_eq_true (m := l) ?_ fun n votes => ?_
    · exact (congrArg Role.voting (s.taking_role dt l l q)).trans voting
    · have votes : (s.role n).voting = true := (congrArg Role.voting (s.taking_role dt l n q)).symm.trans votes
      rw [Collecting.seal, PerLane.get_set]
      split
      · rfl
      · exact others n ‹_› votes
  have joined (y : Moment) : c.seal l y =
      { ({ c with sealed := c.sealed.set l true } : Collecting) with timer := some (c.timer.getD y) } := rfl
  rw [State.sealRound]
  dsimp only
  rw [if_pos (ready _ _), State.closeRound_collecting, joined, State.closeRound_timer, State.taking_round]
  rfl

/-- Settles O20: an expiry that is reached closes the round, and nothing else happens. -/
theorem roundTimerCloses : Obligations.RoundTimerCloses := by
  intro s dt awake
  refine ⟨fun c d run collects timer due => ⟨_, exec_roundTimerExpiry dt awake, ?_⟩, fun early => ?_⟩
  · have expires : (s.advance dt).roundTimeout = ((s.advance dt).closeRound c .timer).serveLinks := by
      have reached : (s.advance dt).clock.reached d = true := (Moment.reached_iff _ _).mpr due
      simp only [State.roundTimeout, State.advance_collecting, collects, timer, reached, if_true]
    rw [expires]
    exact State.closed _ _ _ run
  · rw [exec_roundTimerExpiry dt awake]
    refine congrArg _ ?_
    unfold State.roundTimeout
    rw [State.advance_collecting]
    split
    next c collects =>
      split
      next d timer => exact if_neg fun reached => early c d collects timer ((Moment.reached_iff _ _).mp reached)
      · rfl
    · rfl

/-! ## Quiet expiry -/

section quiet
variable {s : State} {dt : Nat} {l : Lane} {c : Collecting} {d : Moment}

theorem State.silenced_role (s : State) (l m : Lane) : (s.silenced l).role m =
    if m = l then (if s.Suspends l then .suspended else .excluded) else s.role m :=
  State.suspending_role (s.append _) l .quiet m

theorem State.quietExpires_eq (seated : (s.role l).seated = true) (due : s.quietOver l = true) :
    s.quietExpires l = (s.silenced l).vacated l (s.role l) := by
  unfold State.quietExpires
  rw [if_pos ⟨seated, due⟩]
  dsimp only
  rw [State.suspend_eq]
  rfl

theorem State.quiet_ends (run : s.mode = .run) (collects : s.collecting = some c) :
    DepartureEnds (s.silenced l) c l (s.goneCode l) ((s.silenced l).departed l) :=
  State.departed_ends run collects (State.suspending_out (s.append _) l .quiet).1
    (.inr (State.endingCode_suspending (s.append _) l .quiet))

theorem exec_quietTimerExpiry_voter (awake : s.inReset = false) (voting : (s.role l).voting = true)
    (quiet : (s.lane l).quiet = some d) (due : DueAt (s.advance dt).clock d) :
    exec (.quietTimerExpiry dt l) s = .next (((s.advance dt).silenced l).departed l) := by
  have over_ : (s.advance dt).quietOver l = true := (State.quietOver_iff _ l).mpr ⟨d, quiet, due⟩
  have seated : ((s.advance dt).role l).seated = true := Role.seated_of_voting voting
  have voting : ((s.advance dt).role l).voting = true := voting
  rw [exec_quietTimerExpiry dt l awake, State.quietExpires_eq seated over_, State.vacated, if_pos voting]

/-- Settles O29: a quiet expiry is a suspension, followed by a withdrawal or a departure. -/
theorem quietExpirySuspends : Obligations.QuietExpirySuspends := by
  have none_ (s : State) (dt : Nat) (l : Lane) (awake : s.inReset = false) (early : ¬ (s.advance dt).quietOver l = true) :
      exec (.quietTimerExpiry dt l) s = .next (s.advance dt) := by
    rw [exec_quietTimerExpiry dt l awake]
    exact congrArg _ (if_neg fun h => early h.2)
  refine ⟨fun s dt l awake stopped => none_ s dt l awake fun over_ => ?_,
    fun s dt l c d awake run collects quiet => ⟨fun due probation => ?_, fun due voting =>
      ⟨_, exec_quietTimerExpiry_voter awake voting quiet due, State.quiet_ends (s := s.advance dt) run collects⟩,
      fun early => none_ s dt l awake fun over_ => ?_⟩⟩
  · obtain ⟨e, running, -⟩ := (State.quietOver_iff _ l).mp over_
    rw [State.advance_lane, stopped] at running
    cases running
  · have over_ : (s.advance dt).quietOver l = true := (State.quietOver_iff _ l).mpr ⟨d, quiet, due⟩
    have role : (s.advance dt).role l = .probation := probation
    rw [exec_quietTimerExpiry dt l awake, State.quietExpires_eq (by rw [role]; rfl) over_, State.vacated, role,
      if_neg (by decide), State.withdraw_eq (s := (s.advance dt).silenced l) (c := c) collects]
  · obtain ⟨e, running, due⟩ := (State.quietOver_iff _ l).mp over_
    rw [State.advance_lane, quiet] at running
    cases running
    exact early due

end quiet

/-! ## Power loss -/

section loss
variable {s : State} {dt : Nat} {l : Lane} {c : Collecting} {e : Moment}

/-- The part with the supply of lane `l` found LOW. -/
def State.powerLow (s : State) (l : Lane) : State := s.setLane l { s.lane l with power := .low, confirm := none }

theorem State.powerLow_role (s : State) (l m : Lane) : (s.powerLow l).role m = s.role m := by
  unfold State.powerLow State.role
  rw [State.setLane_lane]
  split
  next own => rw [own]
  · rfl

theorem State.powerLow_lane (s : State) (l : Lane) :
    (s.powerLow l).lane l = { s.lane l with power := .low, confirm := none } := State.setLane_lane_self ..

theorem State.flaps_iff (s : State) (l : Lane) : s.flaps l = true ↔ ¬ s.Steady l := by
  unfold State.flaps State.Steady
  cases (s.lane l).lastReturn with
  | none => simp
  | some t =>
    simp only [decide_eq_true_iff, Option.mem_some_iff, forall_eq', not_le]
    rfl

theorem State.powerLow_flaps (s : State) (l : Lane) : (s.powerLow l).flaps l = s.flaps l := by
  unfold State.flaps
  rw [State.powerLow_lane]
  rfl

/-- A confirmed loss in which the lane takes the record `r`: the record of the loss, then the lane's (R71). -/
theorem State.lost_eq (s : State) (l : Lane) (r : LaneRec) (why : Cause) :
    s.lost l r why = ((s.powerLow l).recordLoss l why).setLane l { r with power := .low, confirm := none } := by
  have lane := s.powerLow_lane l
  unfold State.recordLoss
  rw [lane]
  unfold State.lost State.lossRecord State.powerLow
  rw [State.append_setLane, State.setLane_setLane]
  rfl

theorem State.lost_keeps (s : State) (l : Lane) (why : Cause) :
    s.lost l (s.lane l) why = (s.powerLow l).recordLoss l why := by
  rw [State.lost_eq, ← State.powerLow_lane]
  unfold State.setLane State.recordLoss
  exact congrArg (fun lanes => State.append { s.powerLow l with lanes := lanes } _) (PerLane.set_get ..)

theorem State.lost_role (s : State) (l m : Lane) (r : LaneRec) (why : Cause) :
    (s.lost l r why).role m = if m = l then r.role else s.role m := by
  rw [State.lost_eq, State.role, State.setLane_lane]
  split
  · rfl
  · exact s.powerLow_role l m

theorem State.lossConfirmed_eq (confirming : (s.lane l).power = .confirming) (due : s.confirmDue l = true) :
    s.lossConfirmed l = match s.role l with
      | .standby | .inControl => (s.powerLow l).voterLoss l
      | .held => (s.powerLow l).heldLoss l
      | .probation => (s.powerLow l).probationLoss l
      | .absent =>
        if s.session = some l then ((s.powerLow l).recordLoss l .session).releaseSession else s.powerLow l
      | .suspended | .excluded => s.powerLow l := by
  have role := s.powerLow_role l l
  unfold State.lossConfirmed
  rw [if_pos ⟨confirming, due⟩]
  dsimp only
  rw [show (s.setLane l { s.lane l with power := .low, confirm := none }).role l = s.role l from role]
  cases s.role l <;> rfl

theorem State.lossConfirmed_voter (confirming : (s.lane l).power = .confirming) (due : s.confirmDue l = true)
    (voting : (s.role l).voting = true) : s.lossConfirmed l = (s.powerLow l).voterLoss l := by
  rw [State.lossConfirmed_eq confirming due]
  cases role : s.role l <;> rw [role] at voting <;> first | rfl | cases voting

/-- A flapping lane is excluded (R73). -/
theorem State.flapped_eq (s : State) (l : Lane) :
    s.flapped l = ((s.powerLow l).recordLoss l (.role (s.role l))).exclude l .flap := by
  have lane := s.powerLow_lane l
  have recorded (why : Cause) : ((s.powerLow l).recordLoss l why).lane l = (s.powerLow l).lane l := rfl
  unfold State.flapped State.exclude
  rw [State.lost_eq, recorded, lane]
  rfl

theorem State.voterLoss_steady (steady : s.Steady l) : (s.powerLow l).voterLoss l =
    (s.lost l ((s.lane l).holding (s.expiry s.settings.hold)) (.role (s.role l))).departed l := by
  have steady : s.flaps l = false := Bool.eq_false_iff.mpr fun flaps => (s.flaps_iff l).mp flaps steady
  have role := s.powerLow_role l l
  have lane := s.powerLow_lane l
  unfold State.voterLoss
  rw [State.powerLow_flaps, steady, if_neg Bool.false_ne_true, State.lost_eq, role, lane]
  rfl

theorem State.voterLoss_flaps (flaps : ¬ s.Steady l) : (s.powerLow l).voterLoss l = (s.flapped l).departed l := by
  have flaps : s.flaps l = true := (s.flaps_iff l).mpr flaps
  have role := s.powerLow_role l l
  unfold State.voterLoss
  rw [State.powerLow_flaps, flaps, if_pos rfl, State.flapped_eq, role]

theorem State.flapped_role (s : State) (l m : Lane) : (s.flapped l).role m = if m = l then .excluded else s.role m :=
  s.lost_role l m (s.lane l).out (.role (s.role l))

theorem State.held_ends (run : s.mode = .run) (collects : s.collecting = some c) (d : Moment) (why : Cause) :
    DepartureEnds (s.lost l ((s.lane l).holding d) why) c l .powerLoss ((s.lost l ((s.lane l).holding d) why).departed l) := by
  have role : (s.lost l ((s.lane l).holding d) why).role l = .held := by rw [State.lost_role, if_pos rfl]; rfl
  exact State.departed_ends run collects (by rw [role]; rfl) (.inl role)

theorem State.flap_ends (run : s.mode = .run) (collects : s.collecting = some c) :
    DepartureEnds (s.flapped l) c l .excluded ((s.flapped l).departed l) := by
  have role : (s.flapped l).role l = .excluded := by rw [State.flapped_role, if_pos rfl]
  refine State.departed_ends run collects (by rw [role]; rfl) (.inr ?_)
  unfold State.endingCode
  rw [role]

theorem exec_confirmTimerExpiry_voter (awake : s.inReset = false) (confirming : (s.lane l).power = .confirming)
    (confirm : (s.lane l).confirm = some e) (due : DueAt (s.advance dt).clock e) (voting : (s.role l).voting = true) :
    exec (.confirmTimerExpiry dt l) s = .next (((s.advance dt).powerLow l).voterLoss l) := by
  have over_ : (s.advance dt).confirmDue l = true := (State.confirmDue_iff _ l).mpr ⟨e, confirm, due⟩
  rw [exec_confirmTimerExpiry dt l awake, State.lossConfirmed_voter (s := s.advance dt) confirming over_ voting]

/-- Settles O30: the row of the lane's role, with the flap check where the rule makes one. -/
theorem lossConfirmed : Obligations.LossConfirmed := by
  have none_ (s : State) (dt : Nat) (l : Lane) (awake : s.inReset = false)
      (idle : ¬ ((s.lane l).power = .confirming ∧ (s.advance dt).confirmDue l = true)) :
      exec (.confirmTimerExpiry dt l) s = .next (s.advance dt) := by
    rw [exec_confirmTimerExpiry dt l awake]
    exact congrArg _ (if_neg idle)
  refine ⟨fun s dt l awake idle => none_ s dt l awake ?_, fun s dt l e awake confirming confirm => ?_⟩
  · rintro ⟨confirming, due⟩
    obtain ⟨e, running, -⟩ := (State.confirmDue_iff _ l).mp due
    obtain power | stopped := idle
    · exact power confirming
    · rw [State.advance_lane, stopped] at running
      cases running
  intro u
  have due_iff : u.confirmDue l = true ↔ DueAt u.clock e := by
    have confirm : (u.lane l).confirm = some e := confirm
    simp [State.confirmDue_iff, confirm]
  refine ⟨fun early => none_ s dt l awake fun h => early (due_iff.mp h.2), fun due => ?_⟩
  have over_ : u.confirmDue l = true := due_iff.mpr due
  have confirms : exec (.confirmTimerExpiry dt l) s = .next (u.lossConfirmed l) := exec_confirmTimerExpiry dt l awake
  have row := State.lossConfirmed_eq (s := u) (l := l) confirming over_
  refine ⟨fun c run collects voting => ?voter, fun c collects probation => ?probation, fun held steady => ?held,
    fun held flaps => ?flapped, fun absent holder => ?session, fun other => ?other⟩
  case voter =>
    refine ⟨_, exec_confirmTimerExpiry_voter awake confirming confirm due voting, fun steady => ?_, fun flaps => ?_⟩
    · rw [State.voterLoss_steady steady]
      exact State.held_ends (s := u) run collects _ _
    · rw [State.voterLoss_flaps flaps]
      exact State.flap_ends (s := u) run collects
  case probation =>
    have role : u.role l = .probation := probation
    rw [role] at row
    have away : (u.powerLow l).probationLoss l = (u.lost l (u.lane l).away (.role .probation)).withdraw l := by
      have lane := u.powerLow_lane l
      have recorded (why : Cause) : ((u.powerLow l).recordLoss l why).lane l = (u.powerLow l).lane l := rfl
      unfold State.probationLoss
      dsimp only
      rw [State.lost_eq, recorded, lane]
      rfl
    rw [confirms, row, away, State.withdraw_eq (s := u.lost l (u.lane l).away (.role .probation)) (c := c) collects]
    rfl
  case held =>
    have role : u.role l = .held := held
    have steady : u.flaps l = false := Bool.eq_false_iff.mpr fun flaps => (u.flaps_iff l).mp flaps steady
    rw [role] at row
    have kept : (u.powerLow l).heldLoss l = (u.powerLow l).recordLoss l (.role .held) := by
      unfold State.heldLoss
      rw [State.powerLow_flaps, steady, if_neg Bool.false_ne_true]
    rw [confirms, row, kept, ← State.lost_keeps]
    rfl
  case flapped =>
    have role : u.role l = .held := held
    have flaps : u.flaps l = true := (u.flaps_iff l).mpr flaps
    rw [role] at row
    have out : (u.powerLow l).heldLoss l = ((u.flapped l).safeCheck l .excluded).serveLinks := by
      unfold State.heldLoss
      rw [State.powerLow_flaps, flaps, if_pos rfl, State.flapped_eq, role]
    refine ⟨_, by rw [confirms, row, out], fun ⟨m, other, stays⟩ => ?_, fun run last => ?_⟩
    · rw [State.safeCheck_keeps (m := m) (by rwa [State.flapped_role, if_neg other])]
      exact .serveLinks _
    · rw [State.safeCheck_last (s := u.flapped l) run fun m => ?_]
      · exact State.safeEntered ..
      rw [State.flapped_role]
      split
      · exact ⟨rfl, by decide⟩
      · exact last m ‹_›
  case session =>
    have role : u.role l = .absent := absent
    have holds : u.session = some l := holder
    rw [role] at row
    rw [confirms, row]
    dsimp only
    rw [if_pos holds, ← State.lost_keeps]
    rfl
  case other =>
    have low : u.lossConfirmed l = u.powerLow l := by
      obtain ⟨absent, other⟩ | suspended | excluded := other
      · have role : u.role l = .absent := absent
        rw [row, role]
        exact if_neg other
      · have role : u.role l = .suspended := suspended
        rw [row, role]
      · have role : u.role l = .excluded := excluded
        rw [row, role]
    rw [confirms, low]
    rfl

end loss

end Sys2Proof.Machine
end

section
/-! The closes by departure, and discarded lines. -/

namespace Sys2Proof.Machine

-- One proof after another: elaborated side by side, the proofs of the whole text need more memory than the check gives.
set_option Elab.async false

/-! ## The lane that takes a vacant control -/

theorem find?_all {f : Lane → Bool} {n : Lane} (found : f n = true)
    (first : ∀ m, f m = true → m = n ∨ (n, m) ∈ [(Lane.a, Lane.b), (.a, .c), (.b, .c)]) : Lane.all.find? f = some n := by
  have before (m : Lane) (h : ¬ (m = n ∨ (n, m) ∈ [(Lane.a, Lane.b), (.a, .c), (.b, .c)])) : f m = false :=
    Bool.eq_false_iff.mpr fun hm => h (first m hm)
  cases n with
  | a => simp [Lane.all, found]
  | b => simp [Lane.all, found, before .a (by decide)]
  | c => simp [Lane.all, found, before .a (by decide), before .b (by decide)]

section heir
variable {x : State} {c : Collecting} {l n : Lane}

/-- Where control is vacant, the first STANDBY lane takes it, with its CONTROL record (R63). -/
theorem State.departing_of_heir (vacant : ∀ m, x.role m ≠ .inControl) (standby : x.role n = .standby)
    (first : ∀ m, x.role m = .standby → m = n ∨ (n, m) ∈ [(Lane.a, Lane.b), (.a, .c), (.b, .c)]) :
    (x.departing c l).control = some n ∧ (x.departing c l).log = (x.append
      { code := .control, lane := some n, round := some x.round, cause := some .assign }).log := by
  have heir : x.heir = some n := by
    rw [State.heir, if_neg (by rintro ⟨m, -, hm⟩; exact vacant m hm)]
    exact find?_all (by simpa using standby) fun m hm => first m (by simpa using hm)
  rw [State.departing_heir, heir]
  refine ⟨?_, rfl⟩
  have role (m : Lane) : (({ x with collecting := some (c.without l) }).setLane n { x.lane n with role := .inControl }).role m =
      if m = n then .inControl else x.role m := by
    rw [State.role, State.setLane_lane]
    split <;> rfl
  refine find?_all ?_ fun m hm => ?_
  · simp [role]
  · by_contra other
    have other : m ≠ n := fun h => other (.inl h)
    simp [role, other, vacant m] at hm

end heir

/-- Settles O21: the departures of `leave_ends`, `quiet_ends`, `held_ends` and `flap_ends`, with the other voters all sealed. -/
theorem departureCloses : Obligations.DepartureCloses := by
  intro s dt l c awake run collects voting ⟨m, other, stays⟩ all_sealed closes
  have closing {x t : State} {why : Code} (roles : ∀ n, n ≠ l → x.role n = s.role n) (out : (x.role l).voting = false)
      (round : x.round = s.round) (ends : DepartureEnds x c l why t) : closes x t := by
    refine ⟨ends.allSealed ⟨m, by rwa [roles m other]⟩ ?_, fun n vacant standby apart first => ?_⟩
    · rintro ⟨n, apart, votes, unsealed⟩
      rw [roles n apart] at votes
      rw [all_sealed n apart votes] at unsealed
      cases unsealed
    · rw [← round]
      refine State.departing_of_heir (fun k hk => ?_) (by rwa [roles n apart]) fun k hk => ?_
      · by_cases own : k = l
        · rw [own] at hk
          rw [hk] at out
          cases out
        · exact vacant k own (by rwa [roles k own] at hk)
      · have own : k ≠ l := by
          rintro rfl
          rw [hk] at out
          cases out
        exact first k own (by rwa [roles k own] at hk)
  refine ⟨fun q hs => ⟨_, exec_leave_voter hs voting, ?leave⟩,
    fun d quiet due => ⟨_, exec_quietTimerExpiry_voter awake voting quiet due, ?quiet⟩,
    fun e confirming confirm due => ⟨_, exec_confirmTimerExpiry_voter awake confirming confirm due voting,
      fun steady => ?held, fun flaps => ?flap⟩⟩
  case leave =>
    refine closing (fun n apart => ?_) ?_ rfl (State.leave_ends (s := s.taking dt l q) run collects _)
    · rw [State.leaving_role, if_neg apart, State.taking_role]
    · rw [State.leaving_role, if_pos rfl]
      rfl
  case quiet =>
    refine closing (fun n apart => ?_) (State.suspending_out _ _ _).1 rfl (State.quiet_ends (s := s.advance dt) run collects)
    rw [State.silenced_role, if_neg apart]
    rfl
  case held =>
    rw [State.voterLoss_steady steady]
    refine closing (fun n apart => ?_) ?_ rfl (State.held_ends (s := s.advance dt) run collects _ _)
    · rw [State.lost_role, if_neg apart]
      rfl
    · rw [State.lost_role, if_pos rfl]
      rfl
  case flap =>
    rw [State.voterLoss_flaps flaps]
    refine closing (fun n apart => ?_) ?_ rfl (State.flap_ends (s := s.advance dt) run collects)
    · rw [State.flapped_role, if_neg apart]
      rfl
    · rw [State.flapped_role, if_pos rfl]
      rfl

/-! ## Discarded lines -/

section discard
variable {s : State} {l : Lane} {w : LineFault}

/-- A strike outside a close, below STRIKES and at STRIKES (R51, R53). -/
theorem State.strikeForLine_eq (voting : (s.role l).voting = true) : s.strikeForLine l =
    if (s.lane l).strikes + 1 = s.settings.strikes then (s.suspending l .strikes).departed l
    else s.setLane l (s.lane l).struck := by
  unfold State.strikeForLine
  simp only [State.setLane_lane_self, State.setLane_settings, State.suspend_eq, State.vacated, voting, if_true,
    State.suspending_setLane s l (s.lane l).struck _ rfl]
  rfl

/-- The part after the LINE_ERROR record of a discarded line (R158). -/
def State.lineError (s : State) (l : Lane) (w : LineFault) : State :=
  s.append { code := .lineError, lane := some l, cause := some (.line w) }

theorem State.discardLine_other (voting : (s.role l).voting = false) : s.discardLine l w = s.lineError l w :=
  if_neg (ne_true_of_eq_false voting)

theorem State.discardLine_voter (voting : (s.role l).voting = true) : s.discardLine l w =
    if (s.lane l).strikes + 1 = s.settings.strikes then ((s.lineError l w).suspending l .strikes).departed l
    else (s.lineError l w).setLane l (s.lane l).struck :=
  (if_pos voting).trans (State.strikeForLine_eq (s := s.lineError l w) voting)

end discard

/-- Settles O47: each command discards the line in the state with its port emptied, and `discardLine` strikes a voter. -/
theorem lineDiscarded : Obligations.LineDiscarded := by
  intro s dt l awake discarded discards
  have discard {c : Instr} {w : LineFault} {dropping : Bool} (h : exec c s = .next (State.discardLine { s.advance dt with
      ports := s.ports.set l { s.port l with assembling := [], dropping } } l w)) : discards c w dropping := by
    dsimp only [discards]
    rw [h]
    generalize hu : ({ s.advance dt with
      ports := s.ports.set l { s.port l with assembling := [], dropping } } : State) = u
    have role : u.role l = s.role l := by rw [← hu]; rfl
    have struck : (u.lane l).strikes = (s.lane l).strikes ∧ u.settings = s.settings := by rw [← hu]; exact ⟨rfl, rfl⟩
    refine ⟨fun unvoting => ?_, fun voting below => ?_, fun r voting limit run collects => ?_⟩
    · rw [State.discardLine_other (by rwa [role]), ← hu]
      rfl
    · rw [State.discardLine_voter (by rwa [role]), struck.1, struck.2, if_neg below, ← hu]
      rfl
    · rw [State.discardLine_voter (by rwa [role]), struck.1, struck.2, if_pos limit, ← hu]
      refine ⟨_, rfl, ?_⟩
      exact State.departed_ends run collects (State.suspending_out _ _ _).1 (.inr (State.endingCode_suspending _ _ _))
  let emptied : State := { s.advance dt with ports := s.ports.set l { s.port l with assembling := [], dropping := false } }
  have lineEnd (chars : List RxByte) : exec (.lineEnd dt l chars) s = .next ((s.advance dt).lineEnds l chars) :=
    exec_lineEnd dt l awake chars
  have full_iff : (emptied.port l).full = decide (2 ≤ (s.port l).queue.length) := by
    have port : emptied.port l = { s.port l with assembling := [], dropping := false } := PerLane.get_set_self ..
    rw [port]
    rfl
  have ended (chars : List RxByte) (kept : (s.port l).dropping = false) : (s.advance dt).lineEnds l chars =
      if (emptied.port l).full then emptied.discardLine l .overrun
      else match checkLine ((s.port l).assembling ++ chars) with
        | .error w => emptied.discardLine l w
        | .ok req => emptied.acceptLine l req := (if_neg (by rw [State.advance_port, kept]; decide)).trans rfl
  have overrun (chars : List RxByte) (kept : (s.port l).dropping = false) (full : 2 ≤ (s.port l).queue.length) :
      (s.advance dt).lineEnds l chars = emptied.discardLine l .overrun := by
    rw [ended chars kept, full_iff, if_pos (decide_eq_true full)]
  refine ⟨fun kept => discard ?tooLong, fun chars kept full => discard ((lineEnd chars).trans (congrArg _ (overrun chars kept full))),
    fun chars w kept room fails => discard ?fails, fun q c verb fields line kept full => discard ?request, fun c dropping lines => ?dropped⟩
  case tooLong =>
    rw [exec_lineOverLength dt l awake]
    refine congrArg _ ((if_neg ?_).trans rfl)
    rw [State.advance_port, kept]
    decide
  case fails =>
    rw [lineEnd, ended chars kept, full_iff, if_neg (ne_true_of_eq_false (decide_eq_false (Nat.not_le.mpr room))), checkLine_fails fails]
  case request =>
    rw [exec_of_isLine line]
    by_cases fresh : (s.port l).assembling = []
    · have same : emptied = s.advance dt := by
        have port : { s.port l with assembling := [], dropping := false } = s.port l := LanePort.fresh_line fresh kept
        rw [show emptied = (s.advance dt).setPort l { s.port l with assembling := [], dropping := false } from rfl, port,
          State.setPort, State.port, State.advance_ports, PerLane.set_get]
        rfl
      rw [requestArrives_overrun dt l q verb fields s awake full ⟨fresh, kept⟩, ← same]
    · rw [requestArrives_inLine dt l q verb fields s awake fun h => fresh h.1, overrun _ kept full]
  case dropped =>
    obtain ⟨chars, rfl⟩ | ⟨q, verb, fields, line⟩ := lines
    · rw [lineEnd, State.lineEnds_dropping _ _ _ (by exact dropping)]
      rfl
    · have busy : ¬ ((s.port l).assembling = [] ∧ (s.port l).dropping = false) := by
        rw [dropping]
        rintro ⟨-, ⟨⟩⟩
      rw [exec_of_isLine line, requestArrives_inLine dt l q verb fields s awake busy,
        State.lineEnds_dropping _ _ _ (by exact dropping)]
      rfl

end Sys2Proof.Machine
end

section
/-! The part of the state that the Apply Engine moves: points, banks, links and the log, and nothing else (chapters Bank Exchanges and
Link Failover). -/

namespace Sys2Proof.Machine

-- One proof after another: elaborated side by side, the proofs of the whole text need more memory than the check gives.
set_option Elab.async false

/-- The part of the state that the Apply Engine can change. -/
def EnginePart (s t : State) : Prop := t = { s with points := t.points, banks := t.banks, links := t.links, log := t.log }

section part
variable {s t u : State}

theorem EnginePart.refl (s : State) : EnginePart s s := rfl

theorem EnginePart.trans (h : EnginePart s t) (g : EnginePart t u) : EnginePart s u := by
  unfold EnginePart at h g ⊢
  rw [g, h]

theorem BanksPart.enginePart (h : BanksPart s t) : EnginePart s t := by
  unfold BanksPart at h
  unfold EnginePart
  rw [h]

section fields
variable (h : EnginePart s t)
include h

theorem EnginePart.eq : t = { s with points := t.points, banks := t.banks, links := t.links, log := t.log } := h
theorem EnginePart.mode : t.mode = s.mode := by rw [h.eq]
theorem EnginePart.session : t.session = s.session := by rw [h.eq]
theorem EnginePart.idle : t.idle = s.idle := by rw [h.eq]
theorem EnginePart.settings : t.settings = s.settings := by rw [h.eq]
theorem EnginePart.lanes : t.lanes = s.lanes := by rw [h.eq]
theorem EnginePart.round : t.round = s.round := by rw [h.eq]
theorem EnginePart.collecting : t.collecting = s.collecting := by rw [h.eq]
theorem EnginePart.summary : t.summary = s.summary := by rw [h.eq]
theorem EnginePart.clock : t.clock = s.clock := by rw [h.eq]

end fields

/-! ## Single updates -/

theorem EnginePart.setBank (s : State) (b : BankNo) (r : BankRec) : EnginePart s (s.setBank b r) := rfl
theorem EnginePart.setLink (s : State) (k : LinkNo) (r : LinkCtl) : EnginePart s (s.setLink k r) := rfl
theorem EnginePart.append (s : State) (e : Event) : EnginePart s (s.append e) := rfl
theorem EnginePart.updatePoints (s : State) (f : PointNo → PointRec → Bool → PointRec × Bool) :
    EnginePart s (s.updatePoints f) := (BanksPart.updatePoints s f).enginePart

theorem EnginePart.then_setBank (h : EnginePart s t) (b : BankNo) (r : BankRec) : EnginePart s (t.setBank b r) := h.trans (.setBank ..)
theorem EnginePart.then_setLink (h : EnginePart s t) (k : LinkNo) (r : LinkCtl) : EnginePart s (t.setLink k r) := h.trans (.setLink ..)
theorem EnginePart.then_append (h : EnginePart s t) (e : Event) : EnginePart s (t.append e) := h.trans (.append ..)

/-! ## Exchanges -/

theorem EnginePart.sendStep (s : State) (k : LinkNo) (b : BankNo) (x : Exchange) : EnginePart s (s.sendStep k b x) :=
  (BanksPart.sendStep s k b x).enginePart

theorem EnginePart.serveLink (s : State) (k : LinkNo) : EnginePart s (s.serveLink k) :=
  have served : BanksPart s (s.serveLink k) := (Served.serveLink s k).rest
  served.enginePart

theorem EnginePart.serveLinks (s : State) : EnginePart s s.serveLinks := .trans (.serveLink ..) (.serveLink ..)

theorem EnginePart.failLink (s : State) (b : BankNo) (k : LinkNo) (cause : Cause) : EnginePart s (s.failLink b k cause) := by
  unfold State.failLink State.failover State.disqualify
  dsimp only
  split
  · exact .then_append (.then_setBank (.then_append (.setBank ..) _) _ _) _
  · exact .then_append (.trans (.then_setBank (.then_append (.setBank ..) _) _ _) (.updatePoints ..)) _

theorem EnginePart.strikeLink (s : State) (b : BankNo) (k : LinkNo) (cause : Cause) (tag : Byte) (point : Option PointNo)
    (slots : Nat) : EnginePart s (s.strikeLink b k cause tag point slots) := by
  unfold State.strikeLink
  dsimp only
  split
  · exact .trans (.append ..) (.failLink ..)
  · exact .then_setBank (.append ..) _ _

theorem EnginePart.finish (s : State) (k : LinkNo) (b : BankNo) (x : Exchange) (e : Ending) : EnginePart s (s.finish k b x e) := by
  unfold State.finish
  dsimp only
  refine .trans ?_ (.serveLink ..)
  cases e with
  | clean => exact .then_setLink (.setBank ..) _ _
  | sense | abandoned => exact .trans (.then_setLink (.setBank ..) _ _) (.strikeLink ..)

theorem EnginePart.noteValidReply (s : State) (b : BankNo) (k : LinkNo) : EnginePart s (s.noteValidReply b k) := rfl
theorem EnginePart.noteFailedAttempt (s : State) (b : BankNo) (k : LinkNo) : EnginePart s (s.noteFailedAttempt b k) := rfl

theorem EnginePart.noted (s : State) (b : BankNo) (k : LinkNo) (valid : Bool) :
    EnginePart s (if valid then s.noteValidReply b k else s.noteFailedAttempt b k) := by
  cases valid <;> rfl

theorem EnginePart.abandon (s : State) (k : LinkNo) (b : BankNo) (x : Exchange) (f : Failure) : EnginePart s (s.abandon k b x f) := by
  unfold State.abandon State.reconcileLoaded
  cases x.phase with
  | load | transfer => exact .trans (.updatePoints ..) (.finish ..)
  | survey => exact .finish ..

theorem EnginePart.attemptFails (s : State) (k : LinkNo) (b : BankNo) (x : Exchange) (f : Failure) :
    EnginePart s (s.attemptFails k b x f) := by
  unfold State.attemptFails
  dsimp only
  cases x.attempt with
  | first => exact .trans (.noteFailedAttempt ..) (.sendStep ..)
  | second => exact .trans (.noteFailedAttempt ..) (.abandon ..)

theorem EnginePart.judge (s : State) (k : LinkNo) (b : BankNo) (x : Exchange) (bytes : List RxByte) :
    EnginePart s (s.judge k b x bytes) := by
  unfold State.judge
  split
  · exact .attemptFails ..
  next es _ =>
    cases x.phase with
    | load =>
      dsimp only [State.judgeEcho]
      split
      · exact .trans (.noteValidReply ..) (.sendStep ..)
      · exact .attemptFails ..
    | transfer =>
      dsimp only [State.judgeDone, State.reconcileLoaded]
      exact .trans (.trans (.noted ..) (.updatePoints ..)) (.finish ..)
    | survey =>
      dsimp only [State.judgeState]
      exact .trans (.trans (.noted ..) (.updatePoints ..)) (.finish ..)

/-! ## Events of the driver links and deadlines of banks -/

theorem EnginePart.frameSent (s : State) (k : LinkNo) : EnginePart s (s.frameSent k) := by
  unfold State.frameSent
  split
  · split <;> rfl
  · rfl

theorem EnginePart.replyTimeout (s : State) (k : LinkNo) (mid : Bool) : EnginePart s (s.replyTimeout k mid) := by
  unfold State.replyTimeout
  split
  · exact .trans (.setLink ..) (.attemptFails ..)
  · rfl

theorem EnginePart.frameReceived (s : State) (k : LinkNo) (bytes : List RxByte) : EnginePart s (s.frameReceived k bytes) := by
  unfold State.frameReceived
  split
  · rfl
  · split
    · rfl
    · exact .judge ..

theorem EnginePart.settleReached (s : State) (b : BankNo) (st : BankState) : EnginePart s (s.settleReached b st) := by
  obtain ⟨h, -⟩ | ⟨d, -, -, -, h⟩ := s.settleReached_cases b st <;> rw [h]
  · exact .refl s
  · unfold State.settled
    dsimp only
    split
    · rfl
    · exact .trans (.then_setLink (.setBank ..) _ _) (.serveLink ..)

theorem EnginePart.surveyFallsDue (s : State) (b : BankNo) : EnginePart s (s.surveyFallsDue b) := by
  obtain ⟨h, -⟩ | ⟨_, k, -, -, -, -, h⟩ := s.surveyFallsDue_cases b <;> rw [h]
  · exact .refl s
  · exact .serveLink ..

end part

end Sys2Proof.Machine
end

section
/-! The changes of the mode (R123): START, SAFE entry, RESUME and RESTART, each with its record last. -/

namespace Sys2Proof.Machine

-- One proof after another: elaborated side by side, the proofs of the whole text need more memory than the check gives.
set_option Elab.async false

/-- The newest record has the code `k`. -/
def State.LastCode (s : State) (k : Code) : Prop := s.log.ring.getLast?.map (fun r => r.event.code) = some k

/-- The mode is as in `s`, or SAFE has been entered from RUN and the newest record names it (R66, R135). -/
def SafeLogged (s t : State) : Prop := t.mode = s.mode ∨ s.mode = .run ∧ t.mode = .safe ∧ t.LastCode .safeEntered

/-- The mode is as in `s`, or the newest record names its change (R123). -/
def ModeLogged (s t : State) : Prop := t.mode = s.mode ∨ ∃ k, modeRecord s.mode t.mode = some k ∧ t.LastCode k

section rules
variable {s t u : State}

theorem State.lastCode_append (s : State) (e : Event) : (s.append e).LastCode e.code := by
  simp [State.LastCode, State.append, FaultLog.append]

theorem SafeLogged.of_mode (h : t.mode = s.mode) : SafeLogged s t := .inl h

theorem SafeLogged.modeLogged (h : SafeLogged s t) : ModeLogged s t := by
  obtain same | ⟨run, safe, last⟩ := h
  · exact .inl same
  · exact .inr ⟨.safeEntered, by rw [run, safe]; rfl, last⟩

theorem SafeLogged.after_mode (h : t.mode = s.mode) (k : SafeLogged t u) : SafeLogged s u := by
  unfold SafeLogged at *
  rwa [h] at k

/-- The choices of the links change neither the mode nor the log. -/
theorem SafeLogged.serveLinks (h : SafeLogged s t) : SafeLogged s t.serveLinks := by
  have served : BanksPart t t.serveLinks := (Served.serveLinks t).rest
  unfold SafeLogged State.LastCode at *
  rwa [served.mode, served.log]

end rules

/-! ## SAFE entry -/

section safe
variable (s : State) (l : Lane)

theorem State.lastCode_enterSafe (why : Code) : (s.enterSafe l why).LastCode .safeEntered := by
  rw [State.enterSafe_eq]
  exact State.lastCode_append _ _

theorem State.safeCheck_of_mode {s : State} (l : Lane) (why : Code) (other : s.mode ≠ .run) : s.safeCheck l why = s :=
  if_neg fun h => other h.1

theorem SafeLogged.safeCheck (why : Code) : SafeLogged s (s.safeCheck l why) := by
  unfold State.safeCheck
  split
  next last => exact .inr ⟨last.1, s.enterSafe_mode l why, s.lastCode_enterSafe l why⟩
  · exact .of_mode rfl

/-- The SAFE condition after what may have entered SAFE already: a part in SAFE stays as it is. -/
theorem SafeLogged.then_safeCheck {s t : State} (h : SafeLogged s t) (l : Lane) (why : Code) :
    SafeLogged s (t.safeCheck l why) := by
  obtain same | ⟨run, safe, last⟩ := h
  · exact .after_mode same (.safeCheck t l why)
  · rw [State.safeCheck_of_mode l why (by rw [safe]; decide)]
    exact .inr ⟨run, safe, last⟩

/-! ## A close -/

theorem State.assignControl_mode : s.assignControl.mode = s.mode := by
  unfold State.assignControl
  split <;> rfl

theorem State.suspend_mode (why : SuspendCause) : (s.suspend l why).mode = s.mode := by
  rw [State.suspend_eq]
  rfl

theorem State.takeFinding_mode {s : State} (other : s.mode ≠ .run) (n : Nat) (f : Finding) : (s.takeFinding n f).mode = s.mode := by
  have struck (l : Lane) (e : Event) : ((s.append e).strikeInBatch l).mode = s.mode := by
    rw [State.strikeInBatch_eq]
    split
    · have departs : (((s.append e).suspending l .strikes).withdraw l).assignControl.mode = s.mode := State.assignControl_mode _
      rw [State.departedInBatch, State.safeCheck_of_mode _ _ (by rwa [departs]), departs]
    · rfl
  cases f <;> dsimp only [State.takeFinding] <;> split
  case late.isTrue => exact struck _ _
  case dissent.isTrue => exact struck _ _
  case probClean.isTrue l _ =>
    unfold State.probationClean
    dsimp only
    split
    · exact State.assignControl_mode _
    · rfl
  case probFailed.isTrue l p _ =>
    rw [State.probationFailed_eq]
    split <;> rfl
  all_goals rfl

theorem State.takeFindings_mode {s : State} (other : s.mode ≠ .run) (n : Nat) (fs : List Finding) :
    (fs.foldl (State.takeFinding n) s).mode = s.mode := by
  induction fs generalizing s with
  | nil => rfl
  | cons f fs ih =>
    have step := State.takeFinding_mode other n f
    rw [List.foldl_cons, ih (by rwa [step]), step]

theorem SafeLogged.closeRound (c : Collecting) (cause : CloseCause) : SafeLogged s (s.closeRound c cause) := by
  by_cases run : s.mode = .run
  · obtain ⟨es, v, new, batch, ends⟩ := State.closeRound_ends (c := c) (cause := cause) run
    obtain still | safe := ends.mode
    · exact .of_mode (still.trans run.symm)
    · obtain ⟨-, l, -, -, records⟩ := ends.safe safe
      refine .inr ⟨run, safe, ?_⟩
      have last := v.last_safeRecords v l (s.goneCode l) v.round (unsafeTargets fun p => (v.point p, v.slotPending p)).length
      unfold State.LastCode
      rw [ends.notes.log, records, ← Function.comp_def Event.code, ← Option.map_map, last]
      rfl
  · have closing : (s.closing c cause).mode ≠ .run := by rwa [State.closing_mode]
    rw [State.closeRound_eq]
    exact .of_mode ((State.takeFindings_mode closing _ _).trans (s.closing_mode c cause))

/-! ## Departures -/

theorem SafeLogged.closeIfReady (cause : CloseCause) : SafeLogged s (s.closeIfReady cause) := by
  unfold State.closeIfReady
  split
  · exact .of_mode rfl
  · split
    · exact .closeRound s _ cause
    · exact .of_mode rfl

theorem SafeLogged.departed : SafeLogged s (s.departed l) :=
  have begun : ((s.withdraw l).assignControl).mode = s.mode := State.assignControl_mode _
  .after_mode begun ((SafeLogged.closeIfReady _ _).then_safeCheck _ _).serveLinks

theorem SafeLogged.vacated (was : Role) : SafeLogged s (s.vacated l was) := by
  unfold State.vacated
  split
  · exact .departed s l
  · exact .of_mode rfl

/-- A departure after the lane's new record. -/
theorem SafeLogged.vacated_of {s t : State} (h : t.mode = s.mode) (l : Lane) (was : Role) : SafeLogged s (t.vacated l was) :=
  .after_mode h (.vacated t l was)

theorem SafeLogged.departed_of {s t : State} (h : t.mode = s.mode) (l : Lane) : SafeLogged s (t.departed l) :=
  .after_mode h (.departed t l)

theorem SafeLogged.safeCheck_of {s t : State} (h : t.mode = s.mode) (l : Lane) (why : Code) :
    SafeLogged s (t.safeCheck l why).serveLinks :=
  .serveLinks (.after_mode h (.safeCheck t l why))

/-! ## Events -/

/-- The mode after a suspension is that before the records and strikes that led to it. -/
theorem State.suspend_mode_of {s t : State} (h : t.mode = s.mode) (l : Lane) (why : SuspendCause) :
    (t.suspend l why).mode = s.mode := (t.suspend_mode l why).trans h

theorem SafeLogged.discardLine (w : LineFault) : SafeLogged s (s.discardLine l w) := by
  unfold State.discardLine State.strikeForLine
  dsimp only
  split
  · split
    · exact .vacated_of (State.suspend_mode_of (by rfl) _ _) _ _
    · exact .of_mode rfl
  · exact .of_mode rfl

theorem SafeLogged.roundTimeout : SafeLogged s s.roundTimeout := by
  unfold State.roundTimeout
  split
  · split
    · split
      · exact (SafeLogged.closeRound ..).serveLinks
      · exact .of_mode rfl
    · exact .of_mode rfl
  · exact .of_mode rfl

theorem SafeLogged.quietExpires : SafeLogged s (s.quietExpires l) := by
  unfold State.quietExpires
  split
  · exact .vacated_of (State.suspend_mode_of (by rfl) _ _) _ _
  · exact .of_mode rfl

theorem SafeLogged.voterLoss : SafeLogged s (s.voterLoss l) := by
  unfold State.voterLoss
  split <;> exact .departed_of (by rfl) _

theorem SafeLogged.heldLoss : SafeLogged s (s.heldLoss l) := by
  unfold State.heldLoss
  dsimp only
  split
  · exact .safeCheck_of (by rfl) _ _
  · exact .of_mode rfl

theorem SafeLogged.lossConfirmed : SafeLogged s (s.lossConfirmed l) := by
  unfold State.lossConfirmed
  split
  · dsimp only
    split
    · exact .after_mode (by rfl) (.voterLoss _ _)
    · exact .after_mode (by rfl) (.voterLoss _ _)
    · exact .after_mode (by rfl) (.heldLoss _ _)
    · exact .of_mode rfl
    · split <;> exact .of_mode rfl
    · exact .of_mode rfl
    · exact .of_mode rfl
  · exact .of_mode rfl

theorem SafeLogged.holdExpires : SafeLogged s (s.holdExpires l) := by
  unfold State.holdExpires
  dsimp only
  split
  · exact .safeCheck_of (State.suspend_mode_of (by rfl) _ _) _ _
  · exact .of_mode rfl

theorem SafeLogged.sealRound (c : Collecting) : SafeLogged s (s.sealRound l c).1 := by
  unfold State.sealRound
  dsimp only
  split
  · exact .after_mode (by rfl) (SafeLogged.closeRound ..).serveLinks
  · exact .of_mode rfl

end safe

/-! ## Requests -/

section requests
variable (s : State) (l : Lane) (fields : List Text)

theorem Reconfigures.mode {s t : State} (h : Reconfigures s t) : t.mode = s.mode := by
  obtain rfl | ⟨_, _, _, rfl⟩ := h <;> rfl

theorem ModeLogged.startUp (conf : s.mode = .configure) : ModeLogged s (s.startUp l) :=
  .inr ⟨.started, by rw [conf]; rfl, State.lastCode_append _ _⟩

theorem ModeLogged.handleStart (conf : s.mode = .configure) : ModeLogged s (handleStart l fields s).1 := by
  unfold Machine.handleStart
  split
  · exact .inl rfl
  · split_ifs
    case neg =>
      split
      · exact .inl rfl
      · exact .startUp s l conf
    all_goals exact .inl rfl

theorem ModeLogged.handleResume : ModeLogged s (handleResume l fields s).1 := by
  unfold Machine.handleResume
  split
  · exact .inl rfl
  · split
    · exact .inl rfl
    next safe =>
      split
      · exact .inl rfl
      · exact .inr ⟨.resumed, by rw [not_not.mp safe]; rfl, State.lastCode_append _ _⟩

theorem ModeLogged.restartPart (left : s.mode ≠ .configure) : ModeLogged s (s.restartPart l) := by
  refine .inr ⟨.restarted, ?_, State.lastCode_append _ _⟩
  have conf : (s.restartPart l).mode = .configure := rfl
  rw [conf]
  cases mode : s.mode with
  | configure => exact absurd mode left
  | run | safe => rfl

theorem ModeLogged.handleRestart : ModeLogged s (handleRestart l fields s).1 := by
  unfold Machine.handleRestart
  split
  · exact .inl rfl
  · split
    · exact .inl rfl
    · split
      · exact .inl rfl
      · exact .restartPart s l (by simp [*])
    · split
      · exact .inl rfl
      · exact .restartPart s l (by simp [*])

theorem handleJoin_mode_eq : (handleJoin l fields s).1.mode = s.mode := by
  unfold Machine.handleJoin
  split
  · rfl
  · split
    · rfl
    · split <;> rfl

theorem handleHandover_mode_eq : (handleHandover l fields s).1.mode = s.mode := by
  unfold Machine.handleHandover
  split
  · rfl
  · split_ifs <;> rfl

theorem handleReturn_mode_eq : (handleReturn l fields s).1.mode = s.mode := by
  unfold Machine.handleReturn
  split
  · rfl
  · split_ifs
    case neg => exact State.assignControl_mode _
    all_goals rfl

theorem handleStage_mode_eq : (handleStage l fields s).1.mode = s.mode := by
  unfold Machine.handleStage
  split
  · rfl
  · split
    · rfl
    · split <;> rfl

theorem SafeLogged.handleSeal : SafeLogged s (handleSeal l fields s).1 := by
  unfold Machine.handleSeal
  split
  · exact .of_mode rfl
  · split
    · exact .of_mode rfl
    · exact .sealRound ..

theorem SafeLogged.handleLeave : SafeLogged s (handleLeave l fields s).1 := by
  unfold Machine.handleLeave
  split_ifs
  case neg => exact .vacated_of (by rfl) _ _
  all_goals exact .of_mode rfl

theorem ModeLogged.handleVerb (v : Verb) : ModeLogged s (handleVerb v l fields s).1 := by
  have configures {owner : State → State × List Text} (h : Reconfigures s (owner s).1) : ModeLogged s (guarded l s owner).1 := by
    obtain same | ⟨-, -, owned⟩ := guarded_cases l s owner
    · exact .inl (by rw [same])
    · exact .inl (by rw [owned]; exact h.mode)
  have unchanged {t : State} (same : t = s) : ModeLogged s t := .inl (by rw [same])
  cases v
  case point => exact configures (.handlePoint fields s)
  case drop => exact configures (.handleDrop fields s)
  case bank => exact configures (.handleBank fields s)
  case setSetting => exact configures (.handleSet fields s)
  case start =>
    obtain same | ⟨conf, -, owned⟩ := guarded_cases l s (Machine.handleStart l fields)
    · exact unchanged same
    · rw [Machine.handleVerb, owned]
      exact .handleStart s l fields conf
  case resume => exact .handleResume s l fields
  case restart => exact .handleRestart s l fields
  case leave => exact (SafeLogged.handleLeave s l fields).modeLogged
  case stage => exact .inl (handleStage_mode_eq s l fields)
  case join => exact .inl (handleJoin_mode_eq s l fields)
  case handover => exact .inl (handleHandover_mode_eq s l fields)
  case returnLane => exact .inl (handleReturn_mode_eq s l fields)
  case openSession => exact .inl (by unfold Machine.handleVerb Machine.handleOpen; split_ifs <;> rfl)
  case closeSession => exact .inl (by unfold Machine.handleVerb Machine.handleClose; split_ifs <;> rfl)
  case faults => exact .inl (by unfold Machine.handleVerb Machine.handleFaults; split_ifs <;> rfl)
  case ack =>
    obtain same | ⟨_, -, moved⟩ := handleAck_cases l fields s
    · exact unchanged same
    · exact .inl (by rw [Machine.handleVerb, moved])
  case status => exact unchanged (plainReport_state ..)
  case lanes => exact unchanged (plainReport_state ..)
  case round => exact unchanged (plainReport_state ..)
  case digest => exact unchanged (plainReport_state ..)
  case points => exact unchanged (handlePoints_state ..)
  case banks => exact unchanged (handleBanks_state ..)
  -- SEAL is the last case left: its name is a keyword.
  next => exact (SafeLogged.handleSeal s l fields).modeLogged

end requests

/-! ## Deeds -/

theorem ModeLogged.deed (d : Deed) (s : State) : ModeLogged s (d.run s) := by
  cases d
  case rests => exact .inl rfl
  case handles v l fields => exact .handleVerb s l fields v
  case discards l w => exact (SafeLogged.discardLine s l w).modeLogged
  case powerFalls l => exact .inl (by unfold Deed.run State.powerFalls; dsimp only; split <;> rfl)
  case powerRises l => exact .inl (by unfold Deed.run State.powerRises; dsimp only; split <;> rfl)
  case roundTimeout => exact (SafeLogged.roundTimeout s).modeLogged
  case quietExpires l => exact (SafeLogged.quietExpires s l).modeLogged
  case lossConfirmed l => exact (SafeLogged.lossConfirmed s l).modeLogged
  case holdExpires l => exact (SafeLogged.holdExpires s l).modeLogged
  case suspensionPasses l =>
    refine .inl ?_
    unfold Deed.run State.suspensionPasses
    dsimp only
    split
    · split <;> rfl
    · rfl
  case sessionExpires =>
    refine .inl ?_
    unfold Deed.run State.sessionExpires
    dsimp only
    split
    · split <;> rfl
    · rfl
  case settleReached b st => exact .inl (EnginePart.settleReached s b st).mode
  case surveyFallsDue b => exact .inl (EnginePart.surveyFallsDue s b).mode
  case frameSent k => exact .inl (EnginePart.frameSent s k).mode
  case replyTimeout k m => exact .inl (EnginePart.replyTimeout s k m).mode
  case frameReceived k bytes => exact .inl (EnginePart.frameReceived s k bytes).mode

/-- Settles O5: the deed that changes the mode appends the record that names the change last. -/
theorem modeChangesRecorded : Obligations.ModeChangesRecorded := by
  intro c s t h timed changed
  obtain ⟨dt, -, ⟨-, rfl⟩ | ⟨-, u, d, ready, -, ps, rfl, -⟩⟩ := does_of_exec h timed
  · exact absurd rfl changed
  · have mode : u.mode = s.mode := ready.mode
    obtain same | ⟨k, record, last⟩ := ModeLogged.deed d u
    · exact absurd (same.trans mode) changed
    · exact ⟨k, by rwa [mode] at record, last⟩

end Sys2Proof.Machine
end

section
/-! What can become of a lane record at an event (chapters Lane Roles and Control, Lane Power Loss and Return), and the laws of a lane
record by itself: that it fits its role, and that its counters stay below the settings that limit them. -/

namespace Sys2Proof.Machine

-- One proof after another: elaborated side by side, the proofs of the whole text need more memory than the check gives.
set_option Elab.async false

/-! ## The changes of a lane record -/

/-- A change of a lane record at an event, under the settings `g`. -/
inductive LaneStep (g : Settings) (r : LaneRec) : LaneRec → Prop
  /-- The quiet timer is restarted (R58). -/
  | heard (e : Moment) : LaneStep g r (r.restartQuiet e)
  /-- Control is assigned or handed over (R62, R63). -/
  | assigned (role : r.role = .standby) : LaneStep g r { r with role := .inControl }
  /-- Control is handed over (R62). -/
  | ceded (role : r.role = .inControl) : LaneStep g r { r with role := .standby }
  /-- A request, a loss of a PROBATION lane, SAFE entry (R60, R66, R75). -/
  | left (role : r.role.seated = true) : LaneStep g r r.away
  /-- A failed flap check (R73). -/
  | flapped (role : r.role.voting = true ∨ r.role = .held) : LaneStep g r r.out
  /-- A suspension (R55). -/
  | suspended (until_ : Time) (role : r.role.seated = true ∨ r.role = .held) (limit : r.suspensions + 1 < g.susplimit) :
    LaneStep g r { r.out with role := .suspended, suspensions := r.suspensions + 1, suspendedUntil := some until_ }
  /-- The exclusion in its place (R56). -/
  | excluded (role : r.role.seated = true ∨ r.role = .held) (limit : g.susplimit ≤ r.suspensions + 1) :
    LaneStep g r { r.out with suspensions := r.suspensions + 1 }
  /-- A strike below STRIKES (R51). -/
  | struck (role : r.role.voting = true) (limit : r.strikes + 1 ≠ g.strikes) : LaneStep g r r.struck
  /-- A clean round (R54). -/
  | cleaned (role : r.role.voting = true) : LaneStep g r (r.cleanRound g.decay)
  /-- A probation result CLEAN below PROBATION (R48). -/
  | passed (role : r.role = .probation) (limit : r.probClean + 1 ≠ g.probation) :
    LaneStep g r { r with probClean := r.probClean + 1 }
  /-- The one that completes the probation (R48). -/
  | qualified (role : r.role = .probation) :
    LaneStep g r { r with role := .standby, probClean := 0, probFails := 0, strikes := 0, streak := 0 }
  /-- A probation result FAILED below PROBFAIL (R49). -/
  | missed (role : r.role = .probation) (limit : r.probFails + 1 ≠ g.probfail) :
    LaneStep g r { r with probClean := 0, probFails := r.probFails + 1 }
  /-- A confirmed loss of a voter (R72). -/
  | heldBack (deadline : Moment) (role : r.role.voting = true) : LaneStep g r (r.hold deadline)
  /-- A RETURN (R79). -/
  | returned (quiet : Moment) (role : r.role = .held) :
    LaneStep g r { r.endHold with
      role := .standby, strikes := r.carriedStrikes.getD 0, streak := r.carriedStreak.getD 0, quiet := some quiet }
  /-- A JOIN (R47). -/
  | joined (quiet : Moment) (role : r.role = .absent ∨ r.role = .suspended) : LaneStep g r (r.joined quiet)
  /-- START and RESUME (R67). -/
  | tookOffice (quiet : Moment) (role : r.role = .absent ∨ r.role = .suspended) : LaneStep g r (r.takeOffice quiet)
  /-- RESTART (R68). -/
  | restarted : LaneStep g r r.restarted
  /-- The end of a wait (R57). -/
  | waited : LaneStep g r { r with suspendedUntil := none }
  /-- A falling edge (R69). -/
  | fell (e : Moment) (power : r.power = .high) : LaneStep g r { r with power := .confirming, confirm := some e }
  /-- A glitch (R70). -/
  | glitched (power : r.power = .confirming) : LaneStep g r { r with power := .high, confirm := none }
  /-- The return of the supply (R70). -/
  | rose (t : Time) (power : r.power = .low) : LaneStep g r { r with power := .high, lastReturn := some t }
  /-- A confirmed loss (R71). -/
  | fellLow (power : r.power = .confirming) : LaneStep g r { r with power := .low, confirm := none }

section roles
variable {g : Settings} {r x : LaneRec}

/-- A lane outside the vote stays where it is, enters it, or is set back by a RESTART. -/
theorem LaneStep.role_outside (h : LaneStep g r x) (outside : r.role.seated = false) (unheld : r.role ≠ .held) :
    x.role = r.role ∨ x.role.seated = true ∨ x = r.restarted := by
  cases h with
  | heard | waited | fell | glitched | rose | fellLow => exact .inl rfl
  | assigned role | ceded role | passed role | qualified role | missed role => rw [role] at outside; cases outside
  | left role => rw [role] at outside; cases outside
  | flapped role | struck role | cleaned role | heldBack _ role =>
    cases h : r.role <;> simp [h, Role.voting, Role.seated] at role outside unheld
  | suspended _ role | excluded role => simp [outside, unheld] at role
  | returned _ role => exact absurd role unheld
  | joined | tookOffice => exact .inr (.inl rfl)
  | restarted => exact .inr (.inr rfl)

end roles

/-! ## A lane record fits its role -/

/-- The laws of a lane record by itself (R45, R57, R58, R69, R72). -/
structure LaneRec.Fits (r : LaneRec) : Prop where
  quiet : r.quiet.isSome = r.role.seated
  confirm : r.confirm.isSome = true ↔ r.power = .confirming
  wait : r.suspendedUntil.isSome = true → r.role = .suspended ∨ r.role = .absent
  held : r.role = .held → r.holdDeadline.isSome = true ∧ r.carriedStrikes.isSome = true ∧ r.carriedStreak.isSome = true ∧
    (r.roleBefore = some .standby ∨ r.roleBefore = some .inControl)
  free : r.role ≠ .held → r.holdDeadline = none ∧ r.roleBefore = none ∧ r.carriedStrikes = none ∧ r.carriedStreak = none

section fits
variable {g : Settings} {r x : LaneRec}

theorem Role.ne_held_of_seated {q : Role} (seated : q.seated = true) : q ≠ .held := by
  rintro rfl
  cases seated

/-- A lane that goes on in a seated role keeps the law, whatever becomes of its counters. -/
theorem LaneRec.Fits.seats (fits : r.Fits) (was : r.role.seated = true) (is : x.role.seated = true)
    (same : x = { r with role := x.role, strikes := x.strikes, streak := x.streak, probClean := x.probClean, probFails := x.probFails }) :
    x.Fits := by
  have quiet : x.quiet = r.quiet := by rw [same]
  have until_ : x.suspendedUntil = r.suspendedUntil := by rw [same]
  have free := fits.free (Role.ne_held_of_seated was)
  refine ⟨by rw [quiet, fits.quiet, was, is], by rw [same]; exact fits.confirm, fun waits => ?_,
    fun held => absurd held (Role.ne_held_of_seated is), fun _ => by rw [same]; exact free⟩
  rw [until_] at waits
  obtain role | role := fits.wait waits <;> rw [role] at was <;> cases was

/-- A lane that is seated anew has its quiet timer running, no wait and no hold. -/
theorem LaneRec.Fits.seatedAnew (is : x.role.seated = true) (quiet : x.quiet.isSome = true) (waits : x.suspendedUntil = none)
    (confirm : x.confirm.isSome = true ↔ x.power = .confirming)
    (free : x.holdDeadline = none ∧ x.roleBefore = none ∧ x.carriedStrikes = none ∧ x.carriedStreak = none) : x.Fits :=
  ⟨by rw [quiet, is], confirm, fun h => (nomatch waits ▸ h), fun held => absurd held (Role.ne_held_of_seated is),
    fun _ => free⟩

/-- A lane out of the seated roles has its quiet timer stopped and no hold. -/
theorem LaneRec.Fits.unseated (is : x.role.seated = false) (unheld : x.role ≠ .held) (quiet : x.quiet = none)
    (confirm : x.confirm.isSome = true ↔ x.power = .confirming)
    (wait : x.suspendedUntil.isSome = true → x.role = .suspended ∨ x.role = .absent)
    (free : x.holdDeadline = none ∧ x.roleBefore = none ∧ x.carriedStrikes = none ∧ x.carriedStreak = none) : x.Fits :=
  ⟨by rw [quiet, is]; rfl, confirm, wait, fun held => absurd held unheld, fun _ => free⟩

/-- The power fields are none of the role's business. -/
theorem LaneRec.Fits.powered (fits : r.Fits) (confirm : x.confirm.isSome = true ↔ x.power = .confirming)
    (same : x = { r with power := x.power, confirm := x.confirm, lastReturn := x.lastReturn }) : x.Fits :=
  ⟨by rw [same]; exact fits.quiet, confirm, by rw [same]; exact fits.wait, by rw [same]; exact fits.held, by rw [same]; exact fits.free⟩

theorem LaneRec.cleanRound_eq (r : LaneRec) (decay : Nat) : r.cleanRound decay =
    { r with strikes := (r.cleanRound decay).strikes, streak := (r.cleanRound decay).streak } := by
  unfold LaneRec.cleanRound
  split <;> rfl

/-- Every change of a lane record keeps it fitting its role. -/
theorem LaneStep.fits (h : LaneStep g r x) (fits : r.Fits) : x.Fits := by
  have voter (role : r.role.voting = true) := Role.seated_of_voting role
  cases h with
  | heard e =>
    refine ⟨?_, fits.confirm, fits.wait, fits.held, fits.free⟩
    rw [LaneRec.restartQuiet, Option.isSome_map]
    exact fits.quiet
  | assigned role | ceded role => exact fits.seats (by rw [role]; rfl) rfl rfl
  | passed role | missed role => exact fits.seats (by rw [role]; rfl) (by rw [role]; rfl) rfl
  | qualified role => exact fits.seats (by rw [role]; rfl) rfl rfl
  | struck role => exact fits.seats (voter role) (voter role) rfl
  | cleaned role =>
    refine fits.seats (voter role) ?_ (by rw [LaneRec.cleanRound_eq])
    rw [LaneRec.cleanRound_role]
    exact voter role
  | left role =>
    have free := fits.free (Role.ne_held_of_seated role)
    exact .unseated rfl nofun rfl fits.confirm (fun _ => .inr rfl) free
  | flapped | excluded => exact .unseated rfl nofun rfl fits.confirm nofun ⟨rfl, rfl, rfl, rfl⟩
  | suspended => exact .unseated rfl nofun rfl fits.confirm (fun _ => .inl rfl) ⟨rfl, rfl, rfl, rfl⟩
  | heldBack d role =>
    refine ⟨rfl, fits.confirm, fun waits => ?_, fun _ => ⟨rfl, rfl, rfl, ?_⟩, fun h => absurd rfl h⟩
    · obtain q | q := fits.wait waits <;> rw [q] at role <;> cases role
    · rw [LaneRec.hold, Option.some.injEq, Option.some.injEq]
      cases q : r.role <;> rw [q] at role <;> simp [Role.voting] at role ⊢
  | returned q role =>
    refine .seatedAnew rfl rfl ?_ fits.confirm ⟨rfl, rfl, rfl, rfl⟩
    by_contra waits
    obtain q | q := fits.wait (Option.isSome_iff_ne_none.mpr waits) <;> rw [role] at q <;> cases q
  | joined q role | tookOffice q role =>
    exact .seatedAnew rfl rfl rfl fits.confirm (fits.free (by obtain h | h := role <;> rw [h] <;> decide))
  | restarted =>
    by_cases role : r.role = .excluded
    · have x_role : r.restarted.role = .excluded := if_pos role
      refine .unseated (by rw [x_role]; rfl) (by rw [x_role]; decide) rfl fits.confirm (fun waits => ?_) ⟨rfl, rfl, rfl, rfl⟩
      obtain h | h := fits.wait waits <;> rw [role] at h <;> cases h
    · have x_role : r.restarted.role = .absent := if_neg role
      exact .unseated (by rw [x_role]; rfl) (by rw [x_role]; decide) rfl fits.confirm (fun _ => .inr x_role) ⟨rfl, rfl, rfl, rfl⟩
  | waited => exact ⟨fits.quiet, fits.confirm, nofun, fits.held, fits.free⟩
  | fell => exact fits.powered ⟨fun _ => rfl, fun _ => rfl⟩ rfl
  | glitched | fellLow => exact fits.powered ⟨nofun, nofun⟩ rfl
  | rose t power =>
    refine fits.powered ⟨fun confirms => ?_, nofun⟩ rfl
    have confirming : r.power = .confirming := fits.confirm.mp confirms
    rw [power] at confirming
    cases confirming

end fits

/-! ## The counters of a lane record -/

/-- The counters of a lane stay below the settings that limit them, and are 0 where its role has none (R44, R48, R49, R51, R54, R55). -/
structure LaneRec.Counts (g : Settings) (r : LaneRec) : Prop where
  strikes : r.strikes < g.strikes ∧ r.streak < g.decay
  carried : ∀ n, r.carriedStrikes = some n → n < g.strikes
  carriedStreak : ∀ n, r.carriedStreak = some n → n < g.decay
  nonvoter : r.role.voting = false → r.strikes = 0 ∧ r.streak = 0
  probation : r.probClean < g.probation ∧ r.probFails < g.probfail
  outside : r.role ≠ .probation → r.probClean = 0 ∧ r.probFails = 0
  suspensions : r.suspensions ≤ 7 ∧ (r.role ≠ .excluded → r.suspensions < 7)

/-- The settings lie in their ranges (R130). -/
abbrev Settings.InRange (g : Settings) : Prop := ∀ n, (settingRange n).1 ≤ g.get n ∧ g.get n ≤ (settingRange n).2

section counts
variable {g : Settings} {r x : LaneRec}

/-- A lane that neither votes nor qualifies has no counter but that of its suspensions. -/
theorem LaneRec.Counts.idle (range : g.InRange) (zero : x.strikes = 0 ∧ x.streak = 0 ∧ x.probClean = 0 ∧ x.probFails = 0)
    (carried : ∀ n, x.carriedStrikes = some n → n < g.strikes) (carriedStreak : ∀ n, x.carriedStreak = some n → n < g.decay)
    (suspensions : x.suspensions ≤ 7 ∧ (x.role ≠ .excluded → x.suspensions < 7)) : x.Counts g := by
  obtain ⟨strikes, streak, clean, fails⟩ := zero
  have strikes_pos : 1 ≤ g.strikes := (range .strikes).1
  have decay_pos : 4 ≤ g.decay := (range .decay).1
  have probation_pos : 4 ≤ g.probation := (range .probation).1
  have probfail_pos : 1 ≤ g.probfail := (range .probfail).1
  exact ⟨by omega, carried, carriedStreak, fun _ => ⟨strikes, streak⟩, by omega, fun _ => ⟨clean, fails⟩, suspensions⟩

/-- A lane that takes up a voter's role has the voter's counters alone. -/
theorem LaneRec.Counts.votes (counts : r.Counts g) (range : g.InRange) (role : x.role.voting = true)
    (strikes : x.strikes < g.strikes ∧ x.streak < g.decay) (probation : x.probClean = 0 ∧ x.probFails = 0)
    (carried : ∀ n, x.carriedStrikes = some n → n < g.strikes) (carriedStreak : ∀ n, x.carriedStreak = some n → n < g.decay)
    (suspensions : x.suspensions = r.suspensions) (was : r.role ≠ .excluded) : x.Counts g := by
  have probation_pos : 4 ≤ g.probation := (range .probation).1
  have probfail_pos : 1 ≤ g.probfail := (range .probfail).1
  have below := counts.suspensions.2 was
  exact ⟨strikes, carried, carriedStreak, fun nonvoter => (nomatch role.symm.trans nonvoter), by omega, fun _ => probation,
    by omega⟩

theorem LaneRec.Counts.cleanRound (counts : r.Counts g) (role : r.role.voting = true) : (r.cleanRound g.decay).Counts g := by
  obtain ⟨⟨strikes, streak⟩, carried, carriedStreak, -, probation, outside, suspensions⟩ := counts
  unfold LaneRec.cleanRound
  split
  · exact ⟨⟨by dsimp only; omega, by dsimp only; omega⟩, carried, carriedStreak, fun nonvoter => (nomatch role.symm.trans nonvoter),
      probation, outside, suspensions⟩
  · exact ⟨⟨strikes, by dsimp only; omega⟩, carried, carriedStreak, fun nonvoter => (nomatch role.symm.trans nonvoter),
      probation, outside, suspensions⟩

/-- Every change of a lane record keeps its counters below their limits. -/
theorem LaneStep.counts (h : LaneStep g r x) (range : g.InRange) (fits : r.Fits) (counts : r.Counts g) : x.Counts g := by
  have strikes_pos : 1 ≤ g.strikes := (range .strikes).1
  have susplimit : g.susplimit ≤ 7 := (range .susplimit).2
  have unheld (role : r.role ≠ .held) := fits.free role
  have included (role : r.role.seated = true ∨ r.role = .held) : r.suspensions < 7 :=
    counts.suspensions.2 (by rintro q; rw [q] at role; obtain h | h := role <;> cases h)
  have voter (role : r.role.voting = true) : r.role ≠ .excluded := by rintro q; rw [q] at role; cases role
  cases h with
  | heard | waited | fell | glitched | rose | fellLow =>
    exact ⟨counts.strikes, counts.carried, counts.carriedStreak, counts.nonvoter, counts.probation, counts.outside, counts.suspensions⟩
  | assigned role | ceded role =>
    exact counts.votes range rfl counts.strikes (counts.outside (by rw [role]; decide)) counts.carried counts.carriedStreak rfl
      (by rw [role]; decide)
  | left role =>
    exact .idle range ⟨rfl, rfl, rfl, rfl⟩ counts.carried counts.carriedStreak ⟨counts.suspensions.1, fun _ => included (.inl role)⟩
  | flapped role => exact .idle range ⟨rfl, rfl, rfl, rfl⟩ nofun nofun ⟨counts.suspensions.1, fun h => absurd rfl h⟩
  | suspended u role limit =>
    exact .idle range ⟨rfl, rfl, rfl, rfl⟩ nofun nofun ⟨by dsimp only; omega, fun _ => by dsimp only; omega⟩
  | excluded role limit =>
    exact .idle range ⟨rfl, rfl, rfl, rfl⟩ nofun nofun ⟨included role, fun h => absurd rfl h⟩
  | struck role limit =>
    refine counts.votes range role ⟨?_, ?_⟩ (counts.outside ?_) counts.carried counts.carriedStreak rfl (voter role)
    · exact Nat.lt_of_le_of_ne counts.strikes.1 limit
    · exact Nat.zero_lt_of_lt counts.strikes.2
    · rintro q
      rw [q] at role
      cases role
  | cleaned role => exact counts.cleanRound role
  | passed role limit =>
    exact ⟨counts.strikes, counts.carried, counts.carriedStreak, counts.nonvoter,
      ⟨Nat.lt_of_le_of_ne counts.probation.1 limit, counts.probation.2⟩, fun h => absurd role h, counts.suspensions⟩
  | qualified role =>
    exact counts.votes range rfl ⟨strikes_pos, Nat.zero_lt_of_lt counts.strikes.2⟩ ⟨rfl, rfl⟩ counts.carried counts.carriedStreak rfl
      (by rw [role]; decide)
  | missed role limit =>
    exact ⟨counts.strikes, counts.carried, counts.carriedStreak, counts.nonvoter,
      ⟨Nat.zero_lt_of_lt counts.probation.1, Nat.lt_of_le_of_ne counts.probation.2 limit⟩, fun h => absurd role h, counts.suspensions⟩
  | heldBack d role =>
    have outside := counts.outside (by rintro q; rw [q] at role; cases role)
    refine .idle range ⟨rfl, rfl, outside.1, outside.2⟩ ?_ ?_ ⟨counts.suspensions.1, fun _ => counts.suspensions.2 (voter role)⟩
    · rintro n ⟨⟩
      exact counts.strikes.1
    · rintro n ⟨⟩
      exact counts.strikes.2
  | returned q role =>
    refine counts.votes range rfl ⟨?_, ?_⟩ (counts.outside (by rw [role]; decide)) nofun nofun rfl (by rw [role]; decide)
    · dsimp only
      cases carried : r.carriedStrikes with
      | none => exact strikes_pos
      | some n => exact counts.carried n carried
    · dsimp only
      cases carried : r.carriedStreak with
      | none => exact Nat.zero_lt_of_lt counts.strikes.2
      | some n => exact counts.carriedStreak n carried
  | joined q role =>
    have was : r.role ≠ .excluded := by obtain h | h := role <;> rw [h] <;> decide
    exact .idle range ⟨rfl, rfl, rfl, rfl⟩ counts.carried counts.carriedStreak ⟨counts.suspensions.1, fun _ => counts.suspensions.2 was⟩
  | tookOffice q role =>
    have was : r.role ≠ .excluded := by obtain h | h := role <;> rw [h] <;> decide
    exact .idle range ⟨rfl, rfl, rfl, rfl⟩ counts.carried counts.carriedStreak ⟨counts.suspensions.1, fun _ => counts.suspensions.2 was⟩
  | restarted =>
    refine .idle range ⟨rfl, rfl, rfl, rfl⟩ nofun nofun ⟨counts.suspensions.1, fun still => counts.suspensions.2 fun was => ?_⟩
    exact still (if_pos was)

end counts

end Sys2Proof.Machine
end

section
/-! What lanes, the round and the session go through at an event, step by step, and the laws that each step keeps: the lane records fit
their roles and the roles the mode, the collecting round is well formed, and the counters of lanes stay below their limits. -/

namespace Sys2Proof.Machine

-- One proof after another: elaborated side by side, the proofs of the whole text need more memory than the check gives.
set_option Elab.async false

/-! ## The steps -/

/-- Lane `l` can take the record `r`: by a change of a lane record, into a seated role only in RUN or from one, and into control only
where no other lane has it. -/
structure State.LaneChanges (s : State) (l : Lane) (r : LaneRec) : Prop where
  step : LaneStep s.settings (s.lane l) r
  enters : r.role.seated = true → (s.role l).seated = true ∨ s.role l = .held ∨ s.mode = .run
  control : r.role = .inControl → s.role l = .inControl ∨ ∀ m, s.role m ≠ .inControl

/-- One step of an event as far as lanes, round, session and mode go. -/
inductive Act (s : State) : State → Prop
  /-- Time passes, the log, a port or the queue changes, or the part is held in reset. -/
  | apart (clock : Moment) (inReset : Bool) (log : FaultLog) (ports : PerLane LanePort) (pending : List Instr) :
    Act s { s with clock, inReset, log, ports, pending }
  /-- The idle timer of the session is restarted. -/
  | idles (e : Moment) (holder : s.session.isSome = true) : Act s { s with idle := some e }
  | releases : Act s s.releaseSession
  | opens (l : Lane) (e : Moment) (mode : s.mode = .configure) (role : s.role l = .absent) :
    Act s { s with session := some l, idle := some e }
  /-- A lane takes another record and keeps its contribution. -/
  | lane (l : Lane) (r : LaneRec) (change : s.LaneChanges l r) (stays : (s.role l).seated = true → r.role.seated = true) :
    Act s (s.setLane l r)
  /-- A lane leaves its role and its contribution is withdrawn. -/
  | leaves (l : Lane) (r : LaneRec) (change : s.LaneChanges l r) (out : r.role.seated = false) :
    Act s ((s.setLane l r).withdraw l)
  /-- A lane stores stages in their points' ranges. -/
  | stages (l : Lane) (c d : Collecting) (collects : s.collecting = some c) (seated : (s.role l).seated = true)
    (sealed : d.sealed = c.sealed) (timer : d.timer = c.timer)
    (slots : ∀ m p v, d.slot m p = some v →
      c.slot m p = some v ∨ m = l ∧ ∃ e, (s.point p).defn = some e ∧ e.min ≤ v ∧ v ≤ e.max) :
    Act s { s with collecting := some d }
  | seals (l : Lane) (c : Collecting) (e : Moment) (collects : s.collecting = some c) (seated : (s.role l).seated = true) :
    Act s { s with collecting := some (c.seal l e) }
  | closes (c : Collecting) (cause : CloseCause) (collects : s.collecting = some c) : Act s (s.closing c cause)
  | entersSafe (l : Lane) (why : Code) (run : s.mode = .run) (last : s.keepsRun = false) : Act s (s.enterSafe l why)

/-- The steps of an event one after another. -/
def Acts (s t : State) : Prop := Relation.ReflTransGen Act s t

theorem Acts.refl {s : State} : Acts s s := Relation.ReflTransGen.refl

theorem Acts.single {s t : State} (h : Act s t) : Acts s t := Relation.ReflTransGen.single h

theorem Acts.trans {s t u : State} (h : Acts s t) (g : Acts t u) : Acts s u := Relation.ReflTransGen.trans h g

/-- What every step keeps is kept by an event. -/
theorem Acts.kept {P : State → Prop} {s t : State} (h : Acts s t) (step : ∀ u v, Act u v → P u → P v) (hs : P s) : P t := by
  unfold Acts at h
  induction h with
  | refl => exact hs
  | tail _ last ih => exact step _ _ last ih

/-! ## Roles -/

/-- The laws of `State.RolesOk` that every step keeps; that some lane is in control, and that RUN has a lane that votes or is HELD,
holds again at the end of the event. -/
structure State.RolesFit (s : State) : Prop where
  configure : s.mode = .configure → ∀ l, s.role l = .absent ∨ s.role l = .excluded
  safe : s.mode = .safe → ∀ l, s.role l = .absent ∨ s.role l = .suspended ∨ s.role l = .excluded
  oneControl : ∀ l m, s.role l = .inControl → s.role m = .inControl → l = m
  collecting : s.collecting.isSome = true ↔ s.mode = .run
  session : ∀ l, s.session = some l → s.mode = .configure ∧ s.role l = .absent
  idle : s.idle.isSome = s.session.isSome
  lanes : ∀ l, (s.lane l).Fits

/-- A STANDBY lane stands by a lane in control (R63). -/
def State.Controlled (s : State) : Prop := ∀ l, s.role l = .standby → ∃ m, s.role m = .inControl

/-- RUN has a lane that votes or is HELD (R66). -/
def State.Runs (s : State) : Prop := s.mode = .run → s.keepsRun = true

theorem State.rolesOk_iff {s : State} : s.RolesOk ↔ s.RolesFit ∧ s.Controlled ∧ s.Runs := by
  constructor
  · intro ok
    exact ⟨⟨ok.configure, ok.safe, ok.oneControl, ok.collecting, ok.session, ok.idle,
      fun l => ⟨ok.quiet l, ok.confirm l, ok.wait l, ok.held l, ok.free l⟩⟩, ok.control, fun run => State.keepsRun_iff.mpr (ok.run run)⟩
  · rintro ⟨fit, controlled, runs⟩
    exact ⟨fit.configure, fit.safe, fun run => State.keepsRun_iff.mp (runs run), fit.oneControl, controlled, fit.collecting, fit.session,
      fit.idle, fun l => (fit.lanes l).quiet, fun l => (fit.lanes l).confirm, fun l => (fit.lanes l).wait, fun l => (fit.lanes l).held,
      fun l => (fit.lanes l).free⟩

section roles
variable {s t : State} {l : Lane} {r : LaneRec}

theorem State.role_of_lanes (lanes : t.lanes = s.lanes) (m : Lane) : t.role m = s.role m :=
  congrArg (fun x => (PerLane.get x m).role) lanes

/-- The laws of the roles look at lanes, mode, session and whether a round collects. -/
theorem State.RolesFit.congr (fit : s.RolesFit) (mode : t.mode = s.mode) (lanes : t.lanes = s.lanes) (session : t.session = s.session)
    (idle : t.idle.isSome = s.idle.isSome) (collecting : t.collecting.isSome = s.collecting.isSome) : t.RolesFit := by
  have role := State.role_of_lanes lanes
  have lane (m : Lane) : t.lane m = s.lane m := congrArg (PerLane.get · m) lanes
  refine ⟨?_, ?_, ?_, ?_, ?_, ?_, ?_⟩
  · simpa only [mode, role] using fit.configure
  · simpa only [mode, role] using fit.safe
  · simpa only [role] using fit.oneControl
  · rw [mode, collecting]; exact fit.collecting
  · simpa only [mode, role, session] using fit.session
  · rw [idle, session, fit.idle]
  · simpa only [lane] using fit.lanes

/-- A lane outside the vote does not enter it but in RUN. -/
theorem State.LaneChanges.role_outside (change : s.LaneChanges l r) (idle : s.mode ≠ .run) (outside : (s.role l).seated = false)
    (unheld : s.role l ≠ .held) : r.role = s.role l ∨ r = (s.lane l).restarted := by
  obtain same | enters | restarted := change.step.role_outside outside unheld
  · exact .inl same
  · obtain seated | held | run := change.enters enters
    · rw [outside] at seated; cases seated
    · exact absurd held unheld
    · exact absurd run idle
  · exact .inr restarted

theorem State.RolesFit.setLane (fit : s.RolesFit) (change : s.LaneChanges l r) : (s.setLane l r).RolesFit where
  configure mode m := by
    have mode : s.mode = .configure := mode
    rw [State.setLane_role]
    split
    · have was := fit.configure mode l
      obtain same | restarted := change.role_outside (by rw [mode]; decide) (by obtain h | h := was <;> rw [h] <;> rfl)
        (by obtain h | h := was <;> rw [h] <;> decide)
      · rwa [same]
      · rw [restarted, LaneRec.restarted]
        exact (ite_eq_or_eq _ Role.excluded Role.absent).symm
    · exact fit.configure mode m
  safe mode m := by
    have mode : s.mode = .safe := mode
    rw [State.setLane_role]
    split
    · have was := fit.safe mode l
      obtain same | restarted := change.role_outside (by rw [mode]; decide) (by obtain h | h | h := was <;> rw [h] <;> rfl)
        (by obtain h | h | h := was <;> rw [h] <;> decide)
      · rwa [same]
      · rw [restarted, LaneRec.restarted]
        obtain h | h := ite_eq_or_eq ((s.lane l).role = .excluded) Role.excluded Role.absent
        · exact .inr (.inr h)
        · exact .inl h
    · exact fit.safe mode m
  oneControl m n hm hn := by
    rw [State.setLane_role] at hm hn
    have vacant (control : r.role = .inControl) (k : Lane) (other : k ≠ l) : s.role k ≠ .inControl := by
      obtain own | none_ := change.control control
      · exact fun h => other (fit.oneControl k l h own)
      · exact none_ k
    split at hm <;> split at hn
    next hml hnl => rw [hml, hnl]
    next hml hnl => exact absurd hn (vacant hm n hnl)
    next hml hnl => exact absurd hm (vacant hn m hml)
    · exact fit.oneControl m n hm hn
  collecting := fit.collecting
  session m holder := by
    obtain ⟨mode, role⟩ := fit.session m holder
    refine ⟨mode, ?_⟩
    rw [State.setLane_role]
    split
    next own =>
      rw [own] at role
      obtain same | restarted := change.role_outside (by rw [mode]; decide) (by rw [role]; rfl) (by rw [role]; decide)
      · rw [same, role]
      · have role : (s.lane l).role = .absent := role
        rw [restarted, LaneRec.restarted, role]
        rfl
    · exact role
  idle := fit.idle
  lanes m := by
    rw [State.setLane_lane]
    split
    · exact change.step.fits (fit.lanes l)
    · exact fit.lanes m

theorem State.RolesFit.withdraw (fit : s.RolesFit) (l : Lane) : (s.withdraw l).RolesFit :=
  fit.congr rfl rfl rfl rfl Option.isSome_map

theorem State.enterSafe_session (s : State) (l : Lane) (why : Code) : (s.enterSafe l why).session = s.session := by
  rw [s.enterSafe_rest l why]
theorem State.enterSafe_idle (s : State) (l : Lane) (why : Code) : (s.enterSafe l why).idle = s.idle := by
  rw [s.enterSafe_rest l why]

theorem State.enterSafe_role (s : State) (l m : Lane) (why : Code) :
    (s.enterSafe l why).role m = if s.role m = .probation then .absent else s.role m := by
  rw [State.role, State.enterSafe_lane]
  split <;> rfl

/-- SAFE entry leaves no lane in a seated role or HELD. -/
theorem State.RolesFit.enterSafe (fit : s.RolesFit) (run : s.mode = .run) (last : s.keepsRun = false) (why : Code) :
    (s.enterSafe l why).RolesFit where
  configure mode := by rw [State.enterSafe_mode] at mode; cases mode
  safe _ m := by
    obtain ⟨voting, held⟩ := State.keepsRun_eq_false_iff.mp last m
    rw [State.enterSafe_role]
    split
    · exact .inl rfl
    next other =>
      cases role : s.role m with
      | absent => exact .inl rfl
      | suspended => exact .inr (.inl rfl)
      | excluded => exact .inr (.inr rfl)
      | held => exact absurd role held
      | probation => exact absurd role other
      | standby | inControl => rw [role] at voting; cases voting
  oneControl m n control := by
    obtain ⟨voting, -⟩ := State.keepsRun_eq_false_iff.mp last m
    rw [State.enterSafe_role] at control
    split at control
    · cases control
    · rw [control] at voting; cases voting
  collecting := by simp
  session m holder := by
    rw [State.enterSafe_session] at holder
    have mode := (fit.session m holder).1
    rw [run] at mode
    cases mode
  idle := by rw [State.enterSafe_idle, State.enterSafe_session, fit.idle]
  lanes m := by
    rw [State.enterSafe_lane]
    split
    next probation => exact (LaneStep.left (g := s.settings) (by rw [show (s.lane m).role = .probation from probation]; rfl)).fits (fit.lanes m)
    · exact fit.lanes m

theorem State.closing_session (s : State) (c : Collecting) (cause : CloseCause) : (s.closing c cause).session = s.session := by
  have part := s.closing_part c cause
  unfold RoundPart at part
  rw [part]
theorem State.closing_idle (s : State) (c : Collecting) (cause : CloseCause) : (s.closing c cause).idle = s.idle := by
  have part := s.closing_part c cause
  unfold RoundPart at part
  rw [part]

/-- Every step keeps the laws of the roles. -/
theorem Act.rolesFit (h : Act s t) (fit : s.RolesFit) : t.RolesFit := by
  cases h with
  | apart => exact fit.congr rfl rfl rfl rfl rfl
  | idles e holder => exact fit.congr rfl rfl rfl (holder.symm.trans fit.idle.symm) rfl
  | releases => exact ⟨fit.configure, fit.safe, fit.oneControl, fit.collecting, nofun, rfl, fit.lanes⟩
  | opens l e mode role =>
    refine ⟨fit.configure, fit.safe, fit.oneControl, fit.collecting, fun m holder => ?_, rfl, fit.lanes⟩
    rw [← Option.some.inj holder]
    exact ⟨mode, role⟩
  | lane l r change => exact fit.setLane change
  | leaves l r change => exact (fit.setLane change).withdraw l
  | stages l c d collects => exact fit.congr rfl rfl rfl rfl (by rw [collects]; rfl)
  | seals l c e collects => exact fit.congr rfl rfl rfl rfl (by rw [collects]; rfl)
  | closes c cause collects =>
    exact fit.congr (s.closing_mode c cause) (s.closing_lanes c cause) (s.closing_session c cause)
      (congrArg _ (s.closing_idle c cause)) (by rw [State.closing_collecting, collects]; rfl)
  | entersSafe l why run last => exact fit.enterSafe run last why

theorem Acts.rolesFit (h : Acts s t) (fit : s.RolesFit) : t.RolesFit := h.kept (fun _ _ => Act.rolesFit) fit

end roles

end Sys2Proof.Machine
end

section
/-! The laws of the collecting round and of the counters, which every step of an event keeps. -/

namespace Sys2Proof.Machine

-- One proof after another: elaborated side by side, the proofs of the whole text need more memory than the check gives.
set_option Elab.async false

/-! ## The collecting round -/

/-- The laws of `State.RoundOk` that every step keeps; that the round is not ready holds again at the end of the event. -/
structure State.RoundFits (s : State) : Prop where
  cleared : s.mode = .configure → s.round = 0 ∧ s.summary = none
  number : s.mode ≠ .configure → 1 ≤ s.round
  bound : s.round ≤ Config.maxRound
  timer : ∀ c, s.collecting = some c → (c.timer.isSome = true ↔ c.sealed ≠ noLanes)
  unseated : ∀ c l, s.collecting = some c → (s.role l).seated = false → c.sealed.get l = false ∧ ∀ p, c.slot l p = none
  staged : ∀ c l p v, s.collecting = some c → c.slot l p = some v → ∃ d, (s.point p).defn = some d ∧ d.min ≤ v ∧ v ≤ d.max

/-- The collecting round is not ready (R25). -/
def State.Waiting (s : State) : Prop := ∀ c, s.collecting = some c → s.ready c = false

theorem State.roundOk_iff {s : State} : s.RoundOk ↔ s.RoundFits ∧ s.Waiting :=
  ⟨fun ok => ⟨⟨ok.cleared, ok.number, ok.bound, ok.timer, ok.unseated, ok.staged⟩, ok.waiting⟩,
    fun ⟨fit, waiting⟩ => ⟨fit.cleared, fit.number, fit.bound, fit.timer, fit.unseated, fit.staged, waiting⟩⟩

section collecting
variable (c : Collecting) (l m : Lane) (p : PointNo)

theorem Collecting.withdraw_slot : (c.withdraw l).slot m p = if m = l then none else c.slot m p := by
  unfold Collecting.slot Collecting.withdraw
  dsimp only
  rw [PerLane.get_set]
  split
  · simp
  · rfl

theorem Collecting.withdraw_sealed : (c.withdraw l).sealed.get m = if m = l then false else c.sealed.get m := PerLane.get_set ..

theorem noLanes_get : noLanes.get m = false := by cases m <;> rfl

theorem noLanes_set : noLanes.set l false = noLanes := by cases l <;> rfl

theorem Collecting.withdraw_timer (h : c.timer.isSome = true ↔ c.sealed ≠ noLanes) :
    (c.withdraw l).timer.isSome = true ↔ (c.withdraw l).sealed ≠ noLanes := by
  unfold Collecting.withdraw
  dsimp only
  split
  next none_ => simp [none_]
  next some_ =>
    refine ⟨fun _ => some_, fun _ => h.mpr fun none_ => some_ ?_⟩
    rw [none_, noLanes_set]

theorem Collecting.seal_sealed (e : Moment) : (c.seal l e).sealed.get m = if m = l then true else c.sealed.get m := PerLane.get_set ..

theorem Collecting.seal_ne_noLanes (e : Moment) : (c.seal l e).sealed ≠ noLanes := fun none_ => by
  have sealed := c.seal_sealed l l e
  rw [none_, noLanes_get, if_pos rfl] at sealed
  cases sealed

theorem Collecting.empty_slot : Collecting.empty.slot m p = none := by
  unfold Collecting.slot Collecting.empty
  rw [PerLane.get_ofFn]
  simp

end collecting

section round
variable {s t : State} {l : Lane} {r : LaneRec}

/-- The laws of the round look at mode, round, summary, stages and seals, definitions, and at which lanes are seated. -/
theorem State.RoundFits.congr (fit : s.RoundFits) (mode : t.mode = s.mode) (round : t.round = s.round) (summary : t.summary = s.summary)
    (collecting : t.collecting = s.collecting) (seated : ∀ m, (t.role m).seated = false → (s.role m).seated = false)
    (defn : ∀ p, (t.point p).defn = (s.point p).defn) : t.RoundFits := by
  refine ⟨?_, ?_, ?_, ?_, fun c m collects out => ?_, ?_⟩
  · simpa only [mode, round, summary] using fit.cleared
  · simpa only [mode, round] using fit.number
  · simpa only [round] using fit.bound
  · simpa only [collecting] using fit.timer
  · exact fit.unseated c m (collecting ▸ collects) (seated m out)
  · simpa only [collecting, defn] using fit.staged

/-- The collecting round gives way to another: what that must be. -/
theorem State.RoundFits.collect (fit : s.RoundFits) (d : Collecting) (timer : d.timer.isSome = true ↔ d.sealed ≠ noLanes)
    (unseated : ∀ m, (s.role m).seated = false → d.sealed.get m = false ∧ ∀ p, d.slot m p = none)
    (staged : ∀ m p v, d.slot m p = some v → ∃ e, (s.point p).defn = some e ∧ e.min ≤ v ∧ v ≤ e.max) :
    State.RoundFits { s with collecting := some d } where
  cleared := fit.cleared
  number := fit.number
  bound := fit.bound
  timer c collects := by rw [← Option.some.inj collects]; exact timer
  unseated c m collects out := by rw [← Option.some.inj collects]; exact unseated m out
  staged c m p v collects stage := by rw [← Option.some.inj collects] at stage; exact staged m p v stage

/-- A lane that leaves the seated roles with its contribution withdrawn. -/
theorem State.RoundFits.leaves (fit : s.RoundFits) (l : Lane) (r : LaneRec) : ((s.setLane l r).withdraw l).RoundFits where
  cleared := fit.cleared
  number := fit.number
  bound := fit.bound
  timer c collects := by
    obtain ⟨d, was, rfl⟩ := Option.map_eq_some_iff.mp collects
    exact d.withdraw_timer l (fit.timer d was)
  unseated c m collects out := by
    obtain ⟨d, was, rfl⟩ := Option.map_eq_some_iff.mp collects
    have role : ((s.setLane l r).withdraw l).role m = (s.setLane l r).role m := rfl
    rw [role, State.setLane_role] at out
    rw [Collecting.withdraw_sealed]
    simp only [Collecting.withdraw_slot]
    by_cases own : m = l
    · simp only [if_pos own]
      exact ⟨trivial, fun _ => trivial⟩
    · simp only [if_neg own] at out ⊢
      exact fit.unseated d m was out
  staged c m p v collects stage := by
    obtain ⟨d, was, rfl⟩ := Option.map_eq_some_iff.mp collects
    rw [Collecting.withdraw_slot] at stage
    split at stage
    · cases stage
    · exact fit.staged d m p v was stage

theorem State.enterSafe_round (s : State) (l : Lane) (why : Code) : (s.enterSafe l why).round = s.round := by
  rw [s.enterSafe_rest l why]
theorem State.enterSafe_summary (s : State) (l : Lane) (why : Code) : (s.enterSafe l why).summary = s.summary := by
  rw [s.enterSafe_rest l why]

theorem roundAfter_bounds (n : Nat) (bound : n ≤ Config.maxRound) : 1 ≤ roundAfter n ∧ roundAfter n ≤ Config.maxRound := by
  unfold roundAfter
  have most : 1 ≤ Config.maxRound := by decide
  split <;> omega

/-- The close leaves an empty round. -/
theorem State.RoundFits.closes (fit : s.RoundFits) (run : s.mode = .run) (c : Collecting) (cause : CloseCause) :
    (s.closing c cause).RoundFits := by
  have round : (s.closing c cause).round = roundAfter s.round := by simp
  obtain ⟨least, most⟩ := roundAfter_bounds s.round fit.bound
  refine ⟨fun conf => ?_, fun _ => by rwa [round], by rwa [round], fun d collects => ?_, fun d m collects _ => ?_,
    fun d m p v collects stage => ?_⟩
  · rw [State.closing_mode, run] at conf
    cases conf
  all_goals rw [State.closing_collecting] at collects; obtain rfl := Option.some.inj collects
  · exact ⟨nofun, fun h => absurd rfl h⟩
  · exact ⟨noLanes_get m, Collecting.empty_slot m⟩
  · rw [Collecting.empty_slot] at stage
    cases stage

/-- Every step keeps the laws of the round. -/
theorem Act.roundFits (h : Act s t) (roles : s.RolesFit) (fit : s.RoundFits) : t.RoundFits := by
  cases h with
  | apart | idles | releases | opens => exact fit.congr rfl rfl rfl rfl (fun _ => id) fun _ => rfl
  | lane l r change stays =>
    refine fit.congr rfl rfl rfl rfl (fun m out => ?_) fun _ => rfl
    rw [State.setLane_role] at out
    split at out
    next own =>
      rw [own]
      by_contra seated
      rw [stays (by simpa using seated)] at out
      cases out
    · exact out
  | leaves l r => exact fit.leaves l r
  | stages l c d collects seated sealed timer slots =>
    refine fit.collect d (by rw [sealed, timer]; exact fit.timer c collects) (fun m out => ?_) fun m p v stage => ?_
    · obtain ⟨unsealed, empty⟩ := fit.unseated c m collects out
      refine ⟨by rw [sealed, unsealed], fun p => ?_⟩
      by_contra some_stage
      obtain ⟨v, stage⟩ := Option.ne_none_iff_exists'.mp some_stage
      obtain old | ⟨own, -⟩ := slots m p v stage
      · rw [empty p] at old
        cases old
      · rw [own, seated] at out
        cases out
    · obtain old | ⟨-, fits⟩ := slots m p v stage
      · exact fit.staged c m p v collects old
      · exact fits
  | seals l c e collects seated =>
    refine fit.collect _ ⟨fun _ => c.seal_ne_noLanes l e, fun _ => rfl⟩ (fun m out => ?_) fun m p v stage =>
      fit.staged c m p v collects stage
    have other : m ≠ l := by
      rintro rfl
      rw [seated] at out
      cases out
    rw [Collecting.seal_sealed, if_neg other]
    exact fit.unseated c m collects out
  | closes c cause collects => exact fit.closes (roles.collecting.mp (by rw [collects]; rfl)) c cause
  | entersSafe l why run =>
    refine ⟨fun conf => ?_, fun _ => ?_, ?_, fun c collects => ?_, fun c m collects => ?_, fun c m p v collects => ?_⟩
    · rw [State.enterSafe_mode] at conf
      cases conf
    · rw [State.enterSafe_round]
      exact fit.number (by rw [run]; decide)
    · rw [State.enterSafe_round]
      exact fit.bound
    all_goals rw [State.enterSafe_collecting] at collects; cases collects

theorem Acts.fits (h : Acts s t) (roles : s.RolesFit) (fit : s.RoundFits) : t.RolesFit ∧ t.RoundFits :=
  h.kept (P := fun u => u.RolesFit ∧ u.RoundFits) (fun _ _ step ⟨roles, fit⟩ => ⟨step.rolesFit roles, step.roundFits roles fit⟩)
    ⟨roles, fit⟩

end round

/-! ## The counters -/

section counts
variable {s t : State}

theorem State.countsOk_iff : s.CountsOk ↔ s.settings.InRange ∧ (∀ l, (s.lane l).Counts s.settings) ∧
    ∀ b k, ((s.bank b).links.get k).strikes < s.settings.linkstrikes ∧ ((s.bank b).links.get k).streak < s.settings.linkdecay :=
  ⟨fun ok => ⟨ok.settings, fun l => ⟨ok.strikes l, ok.carried l, ok.carriedStreak l, ok.nonvoter l, ok.probation l, ok.outside l,
      ok.suspensions l⟩, ok.links⟩,
    fun ⟨range, lanes, links⟩ => ⟨range, fun l => (lanes l).strikes, fun l => (lanes l).carried, fun l => (lanes l).carriedStreak,
      fun l => (lanes l).nonvoter, fun l => (lanes l).probation, fun l => (lanes l).outside, fun l => (lanes l).suspensions, links⟩⟩

theorem State.CountsOk.congr (ok : s.CountsOk) (settings : t.settings = s.settings) (lanes : t.lanes = s.lanes)
    (links : ∀ b, (t.bank b).links = (s.bank b).links) : t.CountsOk := by
  have lane (m : Lane) : t.lane m = s.lane m := congrArg (PerLane.get · m) lanes
  rw [State.countsOk_iff] at ok ⊢
  simpa only [settings, lane, links] using ok

theorem State.CountsOk.setLane (ok : s.CountsOk) (roles : s.RolesFit) {l : Lane} {r : LaneRec} (step : LaneStep s.settings (s.lane l) r) :
    (s.setLane l r).CountsOk := by
  rw [State.countsOk_iff] at ok ⊢
  obtain ⟨range, lanes, links⟩ := ok
  refine ⟨range, fun m => ?_, links⟩
  rw [State.setLane_lane]
  split
  · exact step.counts range (roles.lanes l) (lanes l)
  · exact lanes m

theorem State.enterSafe_settings (s : State) (l : Lane) (why : Code) : (s.enterSafe l why).settings = s.settings := by
  rw [s.enterSafe_rest l why]

theorem State.CountsOk.enterSafe (ok : s.CountsOk) (roles : s.RolesFit) (l : Lane) (why : Code) : (s.enterSafe l why).CountsOk := by
  rw [State.countsOk_iff] at ok ⊢
  obtain ⟨range, lanes, links⟩ := ok
  rw [State.enterSafe_settings]
  refine ⟨range, fun m => ?_, fun b k => ?_⟩
  · rw [State.enterSafe_lane]
    split
    next probation =>
      have seated : (s.lane m).role.seated = true := by rw [show (s.lane m).role = .probation from probation]; rfl
      exact (LaneStep.left seated).counts range (roles.lanes m) (lanes m)
    · exact lanes m
  · rw [State.enterSafe_bank]
    exact links b k

/-- Every step keeps the counters below their limits. -/
theorem Act.countsOk (h : Act s t) (roles : s.RolesFit) (ok : s.CountsOk) : t.CountsOk := by
  cases h with
  | apart | idles | releases | opens | stages | seals => exact ok.congr rfl rfl fun _ => rfl
  | lane l r change => exact ok.setLane roles change.step
  | leaves l r change => exact (ok.setLane roles change.step).congr rfl rfl fun _ => rfl
  | closes c cause => exact ok.congr (s.closing_settings c cause) (s.closing_lanes c cause) fun b => by rw [State.closing_bank]
  | entersSafe l why => exact ok.enterSafe roles l why

theorem Acts.countsOk (h : Acts s t) (roles : s.RolesFit) (ok : s.CountsOk) : t.CountsOk :=
  (h.kept (P := fun u => u.RolesFit ∧ u.CountsOk) (fun _ _ step ⟨roles, ok⟩ => ⟨step.rolesFit roles, step.countsOk roles ok⟩)
    ⟨roles, ok⟩).2

end counts

end Sys2Proof.Machine
end

section
/-! How closes, departures and the SAFE condition are made of steps, and what holds again at their end: control is with a lane where one
stands by, RUN has a lane that votes or is HELD, and no round is left ready. -/

namespace Sys2Proof.Machine

-- One proof after another: elaborated side by side, the proofs of the whole text need more memory than the check gives.
set_option Elab.async false

/-! ## Single operations as steps -/

section steps
variable {s t : State} {l : Lane} {r : LaneRec}

theorem Acts.append (s : State) (e : Event) : Acts s (s.append e) := .single (.apart s.clock s.inReset _ s.ports s.pending)

theorem Acts.then_append (h : Acts s t) (e : Event) : Acts s (t.append e) := h.trans (.append t e)

/-- A lane keeps its role. -/
theorem State.LaneChanges.same_role (step : LaneStep s.settings (s.lane l) r) (same : r.role = s.role l) : s.LaneChanges l r :=
  ⟨step, fun seated => .inl (by rwa [← same]), fun control => .inl (by rwa [← same])⟩

theorem Acts.same_role (step : LaneStep s.settings (s.lane l) r) (same : r.role = s.role l) : Acts s (s.setLane l r) :=
  .single (.lane l r (.same_role step same) fun seated => by rwa [same])

/-- A lane goes out of the seated roles. -/
theorem State.LaneChanges.out (step : LaneStep s.settings (s.lane l) r) (out : r.role.seated = false) : s.LaneChanges l r :=
  ⟨step, fun seated => (nomatch out.symm.trans seated), fun control => by rw [control] at out; cases out⟩

/-- A lane goes out of the seated roles, its record joins the log, and its contribution is withdrawn. -/
theorem Acts.leaves (step : LaneStep s.settings (s.lane l) r) (out : r.role.seated = false) (e : Event) :
    Acts s (((s.setLane l r).append e).withdraw l) :=
  (Acts.single (.leaves l r (.out step out) out)).then_append e

/-- A HELD lane goes out of its role, and its record joins the log. -/
theorem Acts.unheld (step : LaneStep s.settings (s.lane l) r) (held : s.role l = .held) (out : r.role.seated = false) (e : Event) :
    Acts s ((s.setLane l r).append e) :=
  (Acts.single (.lane l r (.out step out) fun seated => by rw [held] at seated; cases seated)).then_append e

theorem LaneStep.gone (role : (s.role l).seated = true ∨ s.role l = .held) : LaneStep s.settings (s.lane l) (s.gone l) := by
  unfold State.gone
  split
  next suspends => exact .suspended _ role suspends
  next excludes => exact .excluded role (Nat.le_of_not_lt excludes)

theorem State.gone_seated (s : State) (l : Lane) : (s.gone l).role.seated = false := by
  rw [State.gone_role]
  split <;> rfl

/-- A suspension whose contribution is withdrawn. -/
theorem Acts.suspending_withdraw (role : (s.role l).seated = true) (why : SuspendCause) :
    Acts s ((s.suspending l why).withdraw l) :=
  .leaves (.gone (.inl role)) (s.gone_seated l) _

theorem Acts.assignControl (s : State) : Acts s s.assignControl := by
  rw [State.assignControl_eq]
  cases heir : s.heir with
  | none => exact .refl
  | some n =>
    have standby : (s.lane n).role = .standby := State.heir_standby heir
    have change : s.LaneChanges n { s.lane n with role := .inControl } :=
      ⟨.assigned standby, fun _ => .inl (by rw [show s.role n = .standby from standby]; rfl), fun _ => .inr (State.heir_vacant heir)⟩
    exact (Acts.single (.lane n _ change fun _ => rfl)).then_append _

theorem Acts.safeCheck (s : State) (l : Lane) (why : Code) : Acts s (s.safeCheck l why) := by
  unfold State.safeCheck
  split
  next last => exact .single (.entersSafe l why last.1 last.2)
  · exact .refl

/-! ## Findings -/

theorem Acts.strikeInBatch (voting : (s.role l).voting = true) : Acts s (s.strikeInBatch l) := by
  rw [State.strikeInBatch_eq]
  split
  · exact ((Acts.suspending_withdraw (Role.seated_of_voting voting) _).trans (.assignControl _)).trans (.safeCheck ..)
  next limit => exact .same_role (.struck voting limit) rfl

theorem Acts.probationClean (probation : s.role l = .probation) (n : Nat) : Acts s (s.probationClean n l) := by
  unfold State.probationClean
  dsimp only
  split
  · have seats : s.LaneChanges l { s.lane l with role := .standby, probClean := 0, probFails := 0, strikes := 0, streak := 0 } :=
      ⟨.qualified probation, fun _ => .inl (by rw [probation]; rfl), nofun⟩
    exact ((Acts.single (.lane l _ seats fun _ => rfl)).then_append _).trans (.assignControl _)
  next limit => exact .same_role (.passed probation limit) rfl

theorem Acts.probationFailed (probation : s.role l = .probation) (n : Nat) (p : Option PointNo) :
    Acts s (s.probationFailed n l p) := by
  rw [State.probationFailed_eq]
  split
  · exact (Acts.append s _).trans (.suspending_withdraw (s := s.append (s.missRecord l n p)) (by
      rw [show (s.append (s.missRecord l n p)).role l = .probation from probation]; rfl) _)
  next limit => exact (Acts.same_role (.missed probation limit) rfl).then_append _

theorem Acts.takeFinding (n : Nat) (s : State) (f : Finding) : Acts s (s.takeFinding n f) := by
  cases f <;> dsimp only [State.takeFinding] <;> split
  case late.isTrue voting => exact (Acts.append s _).trans (.strikeInBatch (s := s.append _) voting)
  case dissent.isTrue voting => exact (Acts.append s _).trans (.strikeInBatch (s := s.append _) voting)
  case clean.isTrue voting => exact .same_role (.cleaned voting) (LaneRec.cleanRound_role _ _)
  case probClean.isTrue probation => exact .probationClean probation n
  case probFailed.isTrue probation => exact .probationFailed probation n _
  all_goals exact .refl

theorem Acts.closeRound {c : Collecting} (collects : s.collecting = some c) (cause : CloseCause) : Acts s (s.closeRound c cause) := by
  have batch (n : Nat) (fs : List Finding) (u : State) : Acts u (fs.foldl (State.takeFinding n) u) := by
    induction fs generalizing u with
    | nil => exact .refl
    | cons f fs ih => exact (Acts.takeFinding n u f).trans (ih _)
  rw [State.closeRound_eq]
  exact (Acts.single (.closes c cause collects)).trans (batch ..)

theorem Acts.closeIfReady (s : State) (cause : CloseCause) : Acts s (s.closeIfReady cause) := by
  unfold State.closeIfReady
  split
  · exact .refl
  next c collects =>
    split
    · exact .closeRound collects cause
    · exact .refl

end steps

/-! ## What holds again -/

section settled
variable {s t : State} {l : Lane}

theorem State.Controlled.of_roles (h : s.Controlled) (same : ∀ m, t.role m = s.role m) : t.Controlled := by
  unfold State.Controlled at *
  simpa only [same] using h

theorem State.Runs.of_roles (h : s.Runs) (mode : t.mode = s.mode) (same : ∀ m, t.role m = s.role m) : t.Runs := by
  unfold State.Runs at *
  simpa only [State.keepsRun, mode, same] using h

/-- After the control assignment a STANDBY lane stands by a lane in control. -/
theorem State.assignControl_controlled (s : State) : s.assignControl.Controlled := by
  rw [State.assignControl_eq]
  cases heir : s.heir with
  | none =>
    intro l standby
    have standby : s.role l = .standby := standby
    obtain holder | ⟨n, some_heir⟩ := State.heir_isSome_of_voting (s := s) (m := l) (by rw [standby]; rfl)
    · exact holder
    · rw [heir] at some_heir
      cases some_heir
  | some n =>
    refine fun l _ => ⟨n, ?_⟩
    exact State.setLane_role_self s n _

theorem State.assignControl_runs (h : s.Runs) : s.assignControl.Runs := by
  intro run
  rw [State.assignControl_mode] at run
  obtain ⟨m, stays⟩ := State.keepsRun_iff.mp (h run)
  exact State.keepsRun_iff.mpr ⟨m, (s.assignControl_stays m).mpr stays⟩

theorem State.Controlled.enterSafe (h : s.Controlled) (l : Lane) (why : Code) : (s.enterSafe l why).Controlled := by
  intro m standby
  rw [State.enterSafe_role] at standby
  split at standby
  · cases standby
  · obtain ⟨n, control⟩ := h m standby
    refine ⟨n, ?_⟩
    rw [State.enterSafe_role, control]
    rfl

theorem State.Controlled.safeCheck (h : s.Controlled) (l : Lane) (why : Code) : (s.safeCheck l why).Controlled := by
  unfold State.safeCheck
  split
  · exact h.enterSafe l why
  · exact h

/-- The SAFE condition leaves RUN only with a lane that votes or is HELD. -/
theorem State.safeCheck_runs (s : State) (l : Lane) (why : Code) : (s.safeCheck l why).Runs := by
  unfold State.safeCheck
  split
  · intro run
    rw [State.enterSafe_mode] at run
    cases run
  next stays =>
    intro run
    cases keeps : s.keepsRun with
    | true => rfl
    | false => exact absurd ⟨run, keeps⟩ stays

theorem State.Waiting.safeCheck (h : s.Waiting) (l : Lane) (why : Code) : (s.safeCheck l why).Waiting := by
  unfold State.safeCheck
  split
  · intro c collects
    rw [State.enterSafe_collecting] at collects
    cases collects
  · exact h

/-! ## What a finding leaves -/

/-- The lane of a PROBATION finding goes out of the vote: no other lane's role changes. -/
theorem State.Controlled.suspending (h : s.Controlled) (why : SuspendCause) (probation : s.role l = .probation) :
    ((s.suspending l why).withdraw l).Controlled := by
  have role (m : Lane) : ((s.suspending l why).withdraw l).role m =
      if m = l then (if s.Suspends l then .suspended else .excluded) else s.role m := s.suspending_role l why m
  intro m standby
  rw [role] at standby
  split at standby
  · split at standby <;> cases standby
  · obtain ⟨n, control⟩ := h m standby
    refine ⟨n, ?_⟩
    rw [role, if_neg, control]
    rintro rfl
    rw [probation] at control
    cases control

theorem State.Runs.suspending (h : s.Runs) (why : SuspendCause) (probation : s.role l = .probation) :
    ((s.suspending l why).withdraw l).Runs := by
  have role (m : Lane) : ((s.suspending l why).withdraw l).role m =
      if m = l then (if s.Suspends l then .suspended else .excluded) else s.role m := s.suspending_role l why m
  intro run
  obtain ⟨m, stays⟩ := State.keepsRun_iff.mp (h run)
  refine State.keepsRun_iff.mpr ⟨m, ?_⟩
  rw [role, if_neg]
  · exact stays
  · rintro rfl
    rw [probation] at stays
    obtain voting | held := stays
    · cases voting
    · cases held

theorem State.setLane_same_role {r : LaneRec} (same : r.role = s.role l) (m : Lane) : (s.setLane l r).role m = s.role m := by
  rw [State.setLane_role]
  split
  next own => rw [own, same]
  · rfl

theorem State.Controlled.takeFinding (h : s.Controlled) (n : Nat) (f : Finding) : (s.takeFinding n f).Controlled := by
  have struck (l : Lane) (e : Event) : ((s.append e).strikeInBatch l).Controlled := by
    rw [State.strikeInBatch_eq]
    split
    · exact (State.assignControl_controlled _).safeCheck _ _
    · exact h.of_roles (State.setLane_same_role (s := s) rfl)
  cases f <;> dsimp only [State.takeFinding] <;> split
  case late.isTrue => exact struck _ _
  case dissent.isTrue => exact struck _ _
  case clean.isTrue => exact h.of_roles (State.setLane_same_role (LaneRec.cleanRound_role _ _))
  case probClean.isTrue l _ =>
    unfold State.probationClean
    dsimp only
    split
    · exact State.assignControl_controlled _
    · exact h.of_roles (State.setLane_same_role rfl)
  case probFailed.isTrue l p probation =>
    rw [State.probationFailed_eq]
    split
    · exact State.Controlled.suspending (s := s.append _) h _ probation
    · exact h.of_roles (State.setLane_same_role (s := s) rfl)
  all_goals exact h

theorem State.Runs.takeFinding (h : s.Runs) (n : Nat) (f : Finding) : (s.takeFinding n f).Runs := by
  have struck (l : Lane) (e : Event) : ((s.append e).strikeInBatch l).Runs := by
    rw [State.strikeInBatch_eq]
    split
    · exact State.safeCheck_runs _ _ _
    · exact h.of_roles rfl (State.setLane_same_role (s := s) rfl)
  cases f <;> dsimp only [State.takeFinding] <;> split
  case late.isTrue => exact struck _ _
  case dissent.isTrue => exact struck _ _
  case clean.isTrue => exact h.of_roles rfl (State.setLane_same_role (LaneRec.cleanRound_role _ _))
  case probClean.isTrue l probation =>
    unfold State.probationClean
    dsimp only
    split
    · refine State.assignControl_runs fun run => ?_
      exact State.keepsRun_iff.mpr ⟨l, .inl (by
        rw [show State.role (State.append _ _) l = State.role (s.setLane l _) l from rfl, State.setLane_role_self]; rfl)⟩
    · exact h.of_roles rfl (State.setLane_same_role rfl)
  case probFailed.isTrue l p probation =>
    rw [State.probationFailed_eq]
    split
    · exact State.Runs.suspending (s := s.append _) h _ probation
    · exact h.of_roles rfl (State.setLane_same_role (s := s) rfl)
  all_goals exact h

/-- The round that collects, if any, is empty. -/
def State.Blank (s : State) : Prop := ∀ c, s.collecting = some c → c = Collecting.empty

theorem Collecting.ready_empty (s : State) : s.ready .empty = false := by
  have unsealed (m : Lane) : Collecting.empty.sealed.get m = false := noLanes_get m
  simp [State.ready, unsealed]

/-- An empty round is not ready. -/
theorem State.Blank.waiting (h : s.Blank) : s.Waiting := by
  intro c collects
  rw [h c collects]
  exact Collecting.ready_empty s

theorem State.Blank.of_collecting (h : s.Blank) (same : t.collecting = s.collecting) : t.Blank := by
  unfold State.Blank at *
  rwa [same]

/-- An empty round has nothing to withdraw. -/
theorem State.Blank.withdraw (h : s.Blank) (l : Lane) : (s.withdraw l).Blank := by
  cases collects : s.collecting with
  | none => exact h.of_collecting (by unfold State.withdraw; rw [collects]; rfl)
  | some c =>
    obtain rfl := h c collects
    rwa [State.withdraw_of_empty l collects]

theorem State.assignControl_collecting (s : State) : s.assignControl.collecting = s.collecting := by
  unfold State.assignControl
  split <;> rfl

theorem State.Blank.safeCheck (h : s.Blank) (l : Lane) (why : Code) : (s.safeCheck l why).Blank := by
  unfold State.safeCheck
  split
  · intro c collects
    rw [State.enterSafe_collecting] at collects
    cases collects
  · exact h

theorem State.Blank.takeFinding (h : s.Blank) (n : Nat) (f : Finding) : (s.takeFinding n f).Blank := by
  have struck (l : Lane) (e : Event) : ((s.append e).strikeInBatch l).Blank := by
    rw [State.strikeInBatch_eq]
    split
    · have begun : (((s.append e).suspending l .strikes).withdraw l).Blank := (h.of_collecting rfl).withdraw l
      exact (begun.of_collecting (State.assignControl_collecting _)).safeCheck _ _
    · exact h.of_collecting rfl
  cases f <;> dsimp only [State.takeFinding] <;> split
  case late.isTrue => exact struck _ _
  case dissent.isTrue => exact struck _ _
  case clean.isTrue => exact h.of_collecting rfl
  case probClean.isTrue l _ =>
    unfold State.probationClean
    dsimp only
    split
    · exact h.of_collecting (State.assignControl_collecting _)
    · exact h.of_collecting rfl
  case probFailed.isTrue l p _ =>
    rw [State.probationFailed_eq]
    split
    · exact State.Blank.withdraw (s := (s.append _).suspending l .probation) (h.of_collecting rfl) l
    · exact h.of_collecting rfl
  all_goals exact h

/-! ## The end of a close and of a departure -/

/-- What every finding keeps is kept by the batch. -/
theorem takeFindings_kept {P : State → Prop} (keeps : ∀ u n f, P u → P (State.takeFinding n u f)) (n : Nat) (fs : List Finding)
    (h : P s) : P (fs.foldl (State.takeFinding n) s) := by
  induction fs generalizing s with
  | nil => exact h
  | cons f fs ih => exact ih (keeps s n f h)

theorem State.closing_role_same (s : State) (c : Collecting) (cause : CloseCause) (m : Lane) :
    (s.closing c cause).role m = s.role m := State.role_of_lanes (s.closing_lanes c cause) m

variable {c : Collecting} {cause : CloseCause}

theorem State.Controlled.closeRound (h : s.Controlled) : (s.closeRound c cause).Controlled := by
  rw [State.closeRound_eq]
  exact takeFindings_kept (fun u n f hu => hu.takeFinding n f) _ _ (h.of_roles (s.closing_role_same c cause))

theorem State.Runs.closeRound (h : s.Runs) : (s.closeRound c cause).Runs := by
  rw [State.closeRound_eq]
  exact takeFindings_kept (fun u n f hu => hu.takeFinding n f) _ _
    (h.of_roles (s.closing_mode c cause) (s.closing_role_same c cause))

/-- A close leaves an empty round, or none. -/
theorem State.closeRound_waiting (s : State) (c : Collecting) (cause : CloseCause) : (s.closeRound c cause).Waiting := by
  rw [State.closeRound_eq]
  refine (takeFindings_kept (P := State.Blank) (fun u n f hu => hu.takeFinding n f) _ _ fun d collects => ?_).waiting
  rw [State.closing_collecting] at collects
  exact (Option.some.inj collects).symm

theorem State.Controlled.closeIfReady (h : s.Controlled) : (s.closeIfReady cause).Controlled := by
  unfold State.closeIfReady
  split
  · exact h
  · split
    · exact h.closeRound
    · exact h

theorem State.closeIfReady_waiting (s : State) (cause : CloseCause) : (s.closeIfReady cause).Waiting := by
  unfold State.closeIfReady
  split
  next collects => intro c some_round; rw [collects] at some_round; cases some_round
  next c collects =>
    split
    · exact s.closeRound_waiting c cause
    next unready =>
      intro d some_round
      rw [collects] at some_round
      rw [← Option.some.inj some_round]
      exact Bool.eq_false_iff.mpr unready

/-- The departure of lane `l` up to the choices of the links: withdrawal, control, close condition, SAFE condition (R64). -/
def State.departs (s : State) (l : Lane) : State :=
  (((s.withdraw l).assignControl).closeIfReady .departure).safeCheck l (s.endingCode l)

theorem State.departed_eq (s : State) (l : Lane) : s.departed l = (s.departs l).serveLinks := rfl

theorem State.departs_controlled (s : State) (l : Lane) : (s.departs l).Controlled :=
  (State.assignControl_controlled _).closeIfReady.safeCheck _ _

theorem State.departs_runs (s : State) (l : Lane) : (s.departs l).Runs := State.safeCheck_runs _ _ _

theorem State.departs_waiting (s : State) (l : Lane) : (s.departs l).Waiting :=
  State.Waiting.safeCheck (State.closeIfReady_waiting _ _) _ _

theorem Acts.departs (s : State) (l : Lane) : Acts (s.withdraw l) (s.departs l) :=
  ((Acts.assignControl _).trans (.closeIfReady ..)).trans (.safeCheck ..)

end settled

end Sys2Proof.Machine
end

section
/-! The events of lanes and of the round as a whole: each is made of steps, after which the laws of the roles and of the round that
hold between events hold again. -/

namespace Sys2Proof.Machine

-- One proof after another: elaborated side by side, the proofs of the whole text need more memory than the check gives.
set_option Elab.async false

/-! ## What an event leaves -/

/-- Points, banks, links and the mode are as in `s`. -/
def SameTable (s t : State) : Prop := t.mode = s.mode ∧ t.points = s.points ∧ t.banks = s.banks ∧ t.links = s.links

/-- An event has led from `s` to `t` by steps, after which control, RUN and the round are as they have to be between events; the link
controllers have made their choices where anything has changed for them. -/
def Passes (s t : State) : Prop :=
  ∃ u, Acts s u ∧ u.Controlled ∧ u.Runs ∧ (s.RoundOk → u.Waiting) ∧ (t = u ∧ SameTable s u ∨ t = u.serveLinks)

section passes
variable {s t u : State}

theorem State.RolesFit.engine (fit : s.RolesFit) (part : EnginePart s t) : t.RolesFit :=
  fit.congr part.mode part.lanes part.session (congrArg _ part.idle) (congrArg _ part.collecting)

theorem State.RolesOk.engine (ok : s.RolesOk) (part : EnginePart s t) : t.RolesOk := by
  have role := State.role_of_lanes part.lanes
  rw [State.rolesOk_iff] at ok ⊢
  exact ⟨ok.1.engine part, ok.2.1.of_roles role, ok.2.2.of_roles part.mode role⟩

theorem State.Waiting.congr (h : s.Waiting) (collecting : t.collecting = s.collecting)
    (voting : ∀ m, (t.role m).voting = (s.role m).voting) : t.Waiting := by
  unfold State.Waiting at *
  simpa only [collecting, State.ready, voting] using h

theorem State.RoundOk.engine (ok : s.RoundOk) (part : EnginePart s t) (defn : ∀ p, (t.point p).defn = (s.point p).defn) :
    t.RoundOk := by
  have role := State.role_of_lanes part.lanes
  rw [State.roundOk_iff] at ok ⊢
  exact ⟨ok.1.congr part.mode part.round part.summary part.collecting (fun m => by rw [role]; exact id) defn,
    ok.2.congr part.collecting fun m => by rw [role]⟩

/-- An event keeps the laws of the roles. -/
theorem Passes.rolesOk (h : Passes s t) (ok : s.RolesOk) : t.RolesOk := by
  obtain ⟨u, acts, controlled, runs, -, ends⟩ := h
  have ok : u.RolesOk := State.rolesOk_iff.mpr ⟨acts.rolesFit (State.rolesOk_iff.mp ok).1, controlled, runs⟩
  obtain ⟨rfl, -⟩ | rfl := ends
  · exact ok
  · exact ok.engine (.serveLinks u)

/-- An event keeps the laws of the round. -/
theorem Passes.roundOk (h : Passes s t) (roles : s.RolesOk) (ok : s.RoundOk) : t.RoundOk := by
  obtain ⟨u, acts, -, -, waiting, ends⟩ := h
  have fit := (acts.fits (State.rolesOk_iff.mp roles).1 (State.roundOk_iff.mp ok).1).2
  have ok : u.RoundOk := State.roundOk_iff.mpr ⟨fit, waiting ok⟩
  obtain ⟨rfl, -⟩ | rfl := ends
  · exact ok
  · exact ok.engine (.serveLinks u) (Moves.serveLinks u).points

/-! ## The shapes of an event -/

/-- A lane votes or is HELD. -/
def Role.counts (r : Role) : Bool := r.voting || decide (r = .held)

theorem Role.counts_eq_true {r : Role} : r.counts = true ↔ r.voting = true ∨ r = .held := by simp [Role.counts]

/-- Nothing of `s` has changed that control, RUN, the round or the links look at. -/
structure Calm (s t : State) : Prop where
  table : SameTable s t
  roles : ∀ m, t.role m = s.role m ∨ (s.role m).counts = false ∧ (t.role m).counts = false
  seals : ∀ d, t.collecting = some d → ∃ c, s.collecting = some c ∧
    ∀ m, (s.role m).voting = true → d.sealed.get m = c.sealed.get m

theorem Calm.of_same (table : SameTable s t) (roles : ∀ m, t.role m = s.role m) (collecting : t.collecting = s.collecting) : Calm s t :=
  ⟨table, fun m => .inl (roles m), fun d collects => ⟨d, collecting ▸ collects, fun _ _ => rfl⟩⟩

section calm
variable (calm : Calm s t)
include calm

theorem Calm.role_iff {r : Role} (counts : r.counts = true) (m : Lane) : t.role m = r ↔ s.role m = r := by
  obtain same | ⟨before, after⟩ := calm.roles m
  · rw [same]
  · constructor <;> rintro rfl
    · rw [counts] at after; cases after
    · rw [counts] at before; cases before

theorem Calm.voting (m : Lane) : (t.role m).voting = (s.role m).voting := by
  obtain same | ⟨before, after⟩ := calm.roles m
  · rw [same]
  · simp only [Role.counts, Bool.or_eq_false_iff] at before after
    rw [before.1, after.1]

theorem Calm.controlled (h : s.Controlled) : t.Controlled := by
  intro l standby
  obtain ⟨m, control⟩ := h l ((calm.role_iff rfl l).mp standby)
  exact ⟨m, (calm.role_iff rfl m).mpr control⟩

theorem Calm.runs (h : s.Runs) : t.Runs := by
  intro run
  obtain ⟨m, stays⟩ := State.keepsRun_iff.mp (h (calm.table.1.symm.trans run))
  exact State.keepsRun_iff.mpr ⟨m, by rwa [calm.voting, calm.role_iff rfl]⟩

theorem Calm.waiting (h : s.Waiting) : t.Waiting := by
  intro d collects
  obtain ⟨c, was, seals⟩ := calm.seals d collects
  have member (m : Lane) : ((t.role m).voting && d.sealed.get m) = ((s.role m).voting && c.sealed.get m) := by
    rw [calm.voting]
    cases voting : (s.role m).voting with
    | false => rfl
    | true => rw [seals m voting]
  have waits (m : Lane) : (!(t.role m).voting || d.sealed.get m) = (!(s.role m).voting || c.sealed.get m) := by
    rw [calm.voting]
    cases voting : (s.role m).voting with
    | false => rfl
    | true => rw [seals m voting]
  have ready : t.ready d = s.ready c := by simp only [State.ready, member, waits]
  rw [ready, h c was]

end calm

/-- An event that leaves all that the laws between events look at. -/
theorem Passes.calm (roles : s.RolesOk) (acts : Acts s t) (calm : Calm s t) : Passes s t := by
  obtain ⟨-, controlled, runs⟩ := State.rolesOk_iff.mp roles
  exact ⟨t, acts, calm.controlled controlled, calm.runs runs, fun ok => calm.waiting (State.roundOk_iff.mp ok).2, .inl ⟨rfl, calm.table⟩⟩

theorem Passes.refl (roles : s.RolesOk) : Passes s s :=
  .calm roles .refl (.of_same ⟨rfl, rfl, rfl, rfl⟩ (fun _ => rfl) rfl)

/-- A lane record that changes within its role, and what joins the log. -/
theorem Passes.same_role (roles : s.RolesOk) {l : Lane} {r : LaneRec} (step : LaneStep s.settings (s.lane l) r)
    (same : r.role = s.role l) : Passes s (s.setLane l r) :=
  .calm roles (.same_role step same) (.of_same ⟨rfl, rfl, rfl, rfl⟩ (State.setLane_same_role same) rfl)

theorem Passes.same_role_append (roles : s.RolesOk) {l : Lane} {r : LaneRec} (step : LaneStep s.settings (s.lane l) r)
    (same : r.role = s.role l) (e : Event) : Passes s ((s.setLane l r).append e) :=
  .calm roles ((Acts.same_role step same).then_append e) (.of_same ⟨rfl, rfl, rfl, rfl⟩ (State.setLane_same_role (s := s) same) rfl)

/-- A departure, once the lane's new record stands. -/
theorem Passes.departed (l : Lane) (acts : Acts s (u.withdraw l)) : Passes s (u.departed l) :=
  ⟨u.departs l, acts.trans (.departs u l), u.departs_controlled l, u.departs_runs l, fun _ => u.departs_waiting l, .inr rfl⟩

/-- A close. -/
theorem Passes.closes (roles : s.RolesOk) {c : Collecting} (acts : Acts s u) (same : ∀ m, u.role m = s.role m)
    (mode : u.mode = s.mode) (collects : u.collecting = some c) (cause : CloseCause) : Passes s (u.closeRound c cause).serveLinks := by
  obtain ⟨-, controlled, runs⟩ := State.rolesOk_iff.mp roles
  exact ⟨_, acts.trans (.closeRound collects cause), (controlled.of_roles same).closeRound, (runs.of_roles mode same).closeRound,
    fun _ => State.closeRound_waiting u c cause, .inr rfl⟩

/-- A HELD lane goes out of its role, and the SAFE condition is checked. -/
theorem Passes.safeCheck (roles : s.RolesOk) (acts : Acts s u) (gone : ∀ m, u.role m = s.role m ∨ s.role m = .held ∧ (u.role m).counts = false)
    (collecting : u.collecting = s.collecting) (l : Lane) (why : Code) : Passes s (u.safeCheck l why).serveLinks := by
  obtain ⟨-, controlled, -⟩ := State.rolesOk_iff.mp roles
  have role_iff {r : Role} (voting : r.voting = true) (m : Lane) : u.role m = r ↔ s.role m = r := by
    obtain same | ⟨held, out⟩ := gone m
    · rw [same]
    · rw [held]
      constructor <;> rintro rfl
      · rw [Role.counts, voting] at out; cases out
      · cases voting
  have voting (m : Lane) : (u.role m).voting = (s.role m).voting := by
    obtain same | ⟨held, out⟩ := gone m
    · rw [same]
    · rw [Role.counts, Bool.or_eq_false_iff] at out
      rw [held, out.1]
      rfl
  refine ⟨_, acts.trans (.safeCheck u l why), State.Controlled.safeCheck (fun m standby => ?_) l why, State.safeCheck_runs u l why,
    fun ok => State.Waiting.safeCheck ((State.roundOk_iff.mp ok).2.congr collecting voting) l why, .inr rfl⟩
  obtain ⟨n, control⟩ := controlled m ((role_iff rfl m).mp standby)
  exact ⟨n, (role_iff rfl n).mpr control⟩

/-- A lane goes out of its seated role: for a voter the departure, for a PROBATION lane the withdrawal. -/
theorem Passes.vacated (roles : s.RolesOk) {l : Lane} (acts : Acts s (u.withdraw l)) (table : SameTable s u)
    (others : ∀ m, m ≠ l → u.role m = s.role m) (out : (u.role l).counts = false) (seated : (s.role l).seated = true)
    (collecting : u.collecting = s.collecting) : Passes s (u.vacated l (s.role l)) := by
  unfold State.vacated
  split
  · exact .departed l acts
  next unvoting =>
    have before : (s.role l).counts = false := by
      cases role : s.role l <;> rw [role] at seated unvoting <;> simp [Role.counts, Role.voting, Role.seated] at seated unvoting ⊢
    refine .calm roles acts ⟨table, fun m => ?_, fun d collects => ?_⟩
    · by_cases own : m = l
      · rw [own]
        exact .inr ⟨before, out⟩
      · exact .inl (others m own)
    · obtain ⟨c, was, rfl⟩ := Option.map_eq_some_iff.mp collects
      refine ⟨c, collecting ▸ was, fun m voting => ?_⟩
      rw [Collecting.withdraw_sealed, if_neg]
      rintro rfl
      exact unvoting voting

end passes

/-! ## Lines and timers of lanes -/

section events
variable {s : State} {l : Lane}

theorem Passes.discardLine (roles : s.RolesOk) (w : LineFault) : Passes s (s.discardLine l w) := by
  have noted : Acts s (s.lineError l w) := .append s _
  cases voting : (s.role l).voting with
  | false =>
    rw [State.discardLine_other voting]
    exact .calm roles noted (.of_same ⟨rfl, rfl, rfl, rfl⟩ (fun _ => rfl) rfl)
  | true =>
    rw [State.discardLine_voter voting]
    split
    · exact .departed l (noted.trans (.suspending_withdraw (s := s.lineError l w) (Role.seated_of_voting voting) _))
    next limit => exact .same_role_append roles (.struck voting limit) rfl _

theorem State.gone_counts (s : State) (l : Lane) : (s.gone l).role.counts = false := by
  rw [State.gone_role]
  split <;> rfl

theorem Passes.quietExpires (roles : s.RolesOk) : Passes s (s.quietExpires l) := by
  by_cases due : (s.role l).seated = true ∧ s.quietOver l = true
  · rw [State.quietExpires_eq due.1 due.2]
    refine .vacated roles ((Acts.append s _).trans (.suspending_withdraw (s := s.append _) due.1 _)) ⟨rfl, rfl, rfl, rfl⟩
      (fun m other => ?_) ?_ due.1 rfl
    · rw [State.silenced_role, if_neg other]
    · rw [State.silenced_role, if_pos rfl]
      split <;> rfl
  · rw [State.quietExpires, if_neg due]
    exact .refl roles

theorem Passes.roundTimeout (roles : s.RolesOk) : Passes s s.roundTimeout := by
  unfold State.roundTimeout
  split
  next c collects =>
    split
    · split
      · exact .closes roles .refl (fun _ => rfl) rfl collects .timer
      · exact .refl roles
    · exact .refl roles
  · exact .refl roles

theorem Passes.suspensionPasses (roles : s.RolesOk) : Passes s (s.suspensionPasses l) := by
  unfold State.suspensionPasses
  split
  · split
    · exact .same_role roles .waited rfl
    · exact .refl roles
  · exact .refl roles

theorem Passes.sessionExpires (roles : s.RolesOk) : Passes s s.sessionExpires := by
  unfold State.sessionExpires
  split
  · split
    · exact .calm roles ((Acts.single .releases).then_append _) (.of_same ⟨rfl, rfl, rfl, rfl⟩ (fun _ => rfl) rfl)
    · exact .refl roles
  · exact .refl roles

/-! ## Power -/

theorem Passes.powerFalls (roles : s.RolesOk) : Passes s (s.powerFalls l) := by
  unfold State.powerFalls
  split
  next high => exact .same_role roles (.fell _ high) rfl
  · exact .refl roles

theorem Passes.powerRises (roles : s.RolesOk) : Passes s (s.powerRises l) := by
  unfold State.powerRises
  split
  · exact .refl roles
  next confirming => exact .same_role_append roles (.glitched confirming) rfl _
  next low => exact .same_role roles (.rose _ low) rfl

theorem Passes.holdExpires (roles : s.RolesOk) : Passes s (s.holdExpires l) := by
  by_cases due : s.role l = .held ∧ s.holdOver l = true
  · rw [State.holdExpires_eq due.1 due.2]
    have gone : Acts s (s.holdOut l) :=
      (Acts.append s _).trans (.unheld (s := s.append _) (.gone (s := s.append _) (.inr due.1)) due.1 (State.gone_seated _ l) _)
    refine .safeCheck roles gone (fun m => ?_) rfl l _
    have role : (s.holdOut l).role m = if m = l then (if s.Suspends l then .suspended else .excluded) else s.role m :=
      State.suspending_role (s.append _) l _ m
    rw [role]
    split
    next own =>
      rw [own]
      exact .inr ⟨due.1, by split <;> rfl⟩
    · exact .inl rfl
  · have idle : s.holdExpires l = s := if_neg due
    rw [idle]
    exact .refl roles

theorem Acts.powerLow (confirming : (s.lane l).power = .confirming) : Acts s (s.powerLow l) := .same_role (.fellLow confirming) rfl

theorem Acts.recordLoss (confirming : (s.lane l).power = .confirming) (why : Cause) : Acts s ((s.powerLow l).recordLoss l why) :=
  (Acts.powerLow confirming).then_append _

theorem Passes.voterLoss (confirming : (s.lane l).power = .confirming) (voting : (s.role l).voting = true) :
    Passes s ((s.powerLow l).voterLoss l) := by
  have voting : ((s.powerLow l).role l).voting = true := by rwa [State.powerLow_role]
  unfold State.voterLoss
  split
  · exact .departed l ((Acts.recordLoss confirming _).trans
      (.leaves (s := (s.powerLow l).recordLoss l _) (.flapped (.inl voting)) rfl _))
  · exact .departed l ((Acts.recordLoss confirming _).trans
      (.single (.leaves l _ (.out (s := (s.powerLow l).recordLoss l _) (.heldBack _ voting) rfl) rfl)))

theorem Passes.heldLoss (roles : s.RolesOk) (confirming : (s.lane l).power = .confirming) (held : s.role l = .held) :
    Passes s ((s.powerLow l).heldLoss l) := by
  have recorded : Acts s ((s.powerLow l).recordLoss l (.role .held)) := .recordLoss confirming _
  have held' : (s.powerLow l).role l = .held := by rwa [State.powerLow_role]
  unfold State.heldLoss
  dsimp only
  split
  · refine .safeCheck (u := ((s.powerLow l).recordLoss l (.role .held)).exclude l .flap) roles (recorded.trans (.unheld (s := (s.powerLow l).recordLoss l _) (.flapped (.inr held')) held' rfl _))
      (fun m => ?_) rfl l _
    have role : (((s.powerLow l).recordLoss l (.role .held)).exclude l .flap).role m =
        if m = l then .excluded else (s.powerLow l).role m := State.setLane_role ..
    rw [role, State.powerLow_role]
    split
    next own =>
      rw [own]
      exact .inr ⟨held, rfl⟩
    · exact .inl rfl
  · exact .calm roles recorded (.of_same ⟨rfl, rfl, rfl, rfl⟩ (s.powerLow_role l) rfl)

theorem Passes.probationLoss (roles : s.RolesOk) (confirming : (s.lane l).power = .confirming) (probation : s.role l = .probation) :
    Passes s ((s.powerLow l).probationLoss l) := by
  have recorded : Acts s ((s.powerLow l).recordLoss l (.role .probation)) := .recordLoss confirming _
  have probation' : ((s.powerLow l).lane l).role = .probation := (s.powerLow_role l l).trans probation
  have away : State.LaneChanges ((s.powerLow l).recordLoss l (.role .probation)) l ((s.powerLow l).lane l).away :=
    .out (.left (by rw [show (((s.powerLow l).recordLoss l _).lane l).role = .probation from probation']; rfl)) rfl
  have leaves : Passes s (State.vacated (((s.powerLow l).recordLoss l (.role .probation)).setLane l ((s.powerLow l).lane l).away)
      l (s.role l)) := by
    refine .vacated roles (recorded.trans (.single (.leaves l _ away rfl))) ⟨rfl, rfl, rfl, rfl⟩ (fun m other => ?_) ?_
      (by rw [probation]; rfl) rfl
    · rw [State.setLane_role, if_neg other]
      exact s.powerLow_role l m
    · rw [State.setLane_role_self]
      rfl
  rwa [State.vacated, if_neg (by rw [probation]; decide)] at leaves

theorem Passes.lossConfirmed (roles : s.RolesOk) : Passes s (s.lossConfirmed l) := by
  by_cases due : (s.lane l).power = .confirming ∧ s.confirmDue l = true
  · have low : Passes s (s.powerLow l) :=
      .calm roles (.powerLow due.1) (.of_same ⟨rfl, rfl, rfl, rfl⟩ (s.powerLow_role l) rfl)
    rw [State.lossConfirmed_eq due.1 due.2]
    cases role : s.role l with
    | standby | inControl => exact .voterLoss due.1 (by rw [role]; rfl)
    | held => exact .heldLoss roles due.1 role
    | probation => exact .probationLoss roles due.1 role
    | suspended | excluded => exact low
    | absent =>
      dsimp only
      split
      · exact .calm roles (((Acts.powerLow due.1).then_append _).trans (.single .releases))
          (.of_same ⟨rfl, rfl, rfl, rfl⟩ (s.powerLow_role l) rfl)
      · exact low
  · rw [State.lossConfirmed, if_neg due]
    exact .refl roles

end events

end Sys2Proof.Machine
end

section
/-! The requests of lanes as events, and the modes that START, RESUME and RESTART enter; the statements about roles and the round. -/

namespace Sys2Proof.Machine

-- One proof after another: elaborated side by side, the proofs of the whole text need more memory than the check gives.
set_option Elab.async false

/-! ## Requests of the lanes in RUN -/

section requests
variable {s : State} {l : Lane}

theorem State.of_roundCheck {n : Nat} {c : Collecting} (ok : s.roundCheck l n = .ok c) :
    s.mode = .run ∧ s.collecting = some c ∧ (s.role l).seated = true ∧ c.sealed.get l = false := by
  unfold State.roundCheck at ok
  split at ok
  next d run collects =>
    split_ifs at ok with seated number unsealed
    obtain rfl := Except.ok.inj ok
    exact ⟨run, collects, by simpa using seated, by simpa using unsealed⟩
  · cases ok

theorem Passes.handleStage (roles : s.RolesOk) (fields : List Text) : Passes s (handleStage l fields s).1 := by
  unfold Machine.handleStage
  split
  · exact .refl roles
  next n ps _ =>
    split
    · exact .refl roles
    next c check =>
      split
      · exact .refl roles
      next passed =>
        obtain ⟨-, collects, seated, -⟩ := State.of_roundCheck check
        obtain ⟨named, defined, ranged⟩ := (s.pairsRefusal_eq_none_iff ps).mp passed
        have named := (s.pairsNamed_eq_none_iff ps).mp named
        have defined := (s.pairsDefined_eq_none_iff ps).mp defined
        have ranged := (s.pairsInRange_eq_none_iff ps).mp ranged
        refine .calm roles (.single (.stages l c _ collects seated (c.putAll_sealed l ps) (c.putAll_timer l ps) fun m p v stage => ?_))
          ⟨⟨rfl, rfl, rfl, rfl⟩, fun _ => .inl rfl, fun d some_round => ⟨c, collects, fun m _ => ?_⟩⟩
        · by_cases own : m = l
          · rw [own] at stage ⊢
            rw [c.putAll_slot_self l p ps named] at stage
            cases last : lastPair ps p with
            | none =>
              rw [last] at stage
              exact .inl stage
            | some x =>
              rw [last] at stage
              obtain rfl : x.2 = v := Option.some.inj stage
              have member : x ∈ ps := List.mem_reverse.mp (List.mem_of_find?_eq_some last)
              have point : Fin.ofNat 64 x.1 = p := by
                have names : x.1 = p.val := by simpa using List.find?_some last
                rw [names]
                exact Fin.ofNat_val_eq_self p
              obtain ⟨e, defn⟩ := Option.isSome_iff_exists.mp (defined x member)
              refine .inr ⟨rfl, e, by rw [← point]; exact defn, ?_⟩
              exact ranged x member e defn
          · rw [c.putAll_slot_other l m p ps own] at stage
            exact .inl stage
        · rw [← Option.some.inj some_round, c.putAll_sealed]

theorem Passes.sealRound (roles : s.RolesOk) {c : Collecting} (collects : s.collecting = some c) (seated : (s.role l).seated = true) :
    Passes s (s.sealRound l c).1 := by
  have sealed : Acts s { s with collecting := some (c.seal l (s.expiry s.settings.roundtime)) } :=
    .single (.seals l c _ collects seated)
  obtain ⟨-, controlled, runs⟩ := State.rolesOk_iff.mp roles
  unfold State.sealRound
  dsimp only
  split
  · exact .closes roles sealed (fun _ => rfl) rfl rfl .sealed
  next unready =>
    refine ⟨_, sealed, controlled.of_roles fun _ => rfl, runs.of_roles rfl fun _ => rfl, fun _ d some_round => ?_,
      .inl ⟨rfl, rfl, rfl, rfl, rfl⟩⟩
    rw [← Option.some.inj some_round]
    exact Bool.eq_false_iff.mpr unready

theorem Passes.handleSeal (roles : s.RolesOk) (fields : List Text) : Passes s (handleSeal l fields s).1 := by
  unfold Machine.handleSeal
  split
  · exact .refl roles
  · split
    · exact .refl roles
    next check =>
      obtain ⟨-, collects, seated, -⟩ := State.of_roundCheck check
      exact .sealRound roles collects seated

theorem State.of_entryRefusal {d : Digest} (passed : s.entryRefusal l d = none) : s.role l = .absent ∨ s.role l = .suspended := by
  by_contra other
  rw [not_or] at other
  rw [State.entryRefusal, if_pos other] at passed
  cases passed

theorem Passes.handleJoin (roles : s.RolesOk) (fields : List Text) : Passes s (handleJoin l fields s).1 := by
  unfold Machine.handleJoin
  split
  · exact .refl roles
  · split
    · exact .refl roles
    next run =>
      split
      · exact .refl roles
      next passed =>
        have outside := State.of_entryRefusal passed
        have change : s.LaneChanges l ((s.lane l).joined (s.expiry s.settings.quiet)) :=
          ⟨.joined _ outside, fun _ => .inr (.inr (not_not.mp run)), nofun⟩
        refine .calm roles ((Acts.single (.lane l _ change fun _ => rfl)).then_append _)
          ⟨⟨rfl, rfl, rfl, rfl⟩, fun m => ?_, fun d collects => ⟨d, collects, fun _ _ => rfl⟩⟩
        have role : (s.joinLane l).role m = if m = l then .probation else s.role m := State.setLane_role ..
        rw [role]
        split
        next own =>
          rw [own]
          exact .inr ⟨by obtain h | h := outside <;> rw [h] <;> rfl, rfl⟩
        · exact .inl rfl

theorem Passes.handleLeave (roles : s.RolesOk) (fields : List Text) : Passes s (handleLeave l fields s).1 := by
  unfold Machine.handleLeave
  split
  · exact .refl roles
  · split
    · exact .refl roles
    next seats =>
      have seated : (s.role l).seated = true := by simpa using seats
      have role (m : Lane) : (s.leaveVote l).role m = if m = l then .absent else s.role m := State.setLane_role ..
      refine .vacated roles (.leaves (.left seated) rfl _) ⟨rfl, rfl, rfl, rfl⟩ (fun m other => ?_) ?_ seated rfl
      · rw [role, if_neg other]
      · rw [role, if_pos rfl]
        rfl

theorem Passes.handleHandover (roles : s.RolesOk) (fields : List Text) : Passes s (handleHandover l fields s).1 := by
  unfold Machine.handleHandover
  split
  · exact .refl roles
  next m _ =>
    split_ifs with _ holder target
    case neg =>
      have holder : s.role l = .inControl := not_not.mp holder
      have target : s.role m = .standby := not_not.mp target
      have other : m ≠ l := by rintro rfl; rw [target] at holder; cases holder
      have cedes : s.LaneChanges l { s.lane l with role := .standby } :=
        ⟨.ceded holder, fun _ => .inl (by rw [holder]; rfl), nofun⟩
      have vacant (n : Lane) : (s.setLane l { s.lane l with role := .standby }).role n ≠ .inControl := by
        rw [State.setLane_role]
        split
        · exact nofun
        next apart => exact fun control => apart (roles.oneControl n l control holder)
      have takes : (s.setLane l { s.lane l with role := .standby }).LaneChanges m
          { (s.setLane l { s.lane l with role := .standby }).lane m with role := .inControl } := by
        have standby : (s.setLane l { s.lane l with role := .standby }).role m = .standby := by
          rw [State.setLane_role, if_neg other, target]
        exact ⟨.assigned standby, fun _ => .inl (by rw [standby]; rfl), fun _ => .inr vacant⟩
      have acts : Acts s (s.passControl l m) :=
        ((Acts.single (.lane l _ cedes fun _ => rfl)).trans (.single (.lane m _ takes fun _ => rfl))).then_append _
      have role (n : Lane) : (s.passControl l m).role n = if n = m then .inControl else if n = l then .standby else s.role n := by
        have twice : (s.passControl l m).role n = ((s.setLane l { s.lane l with role := .standby }).setLane m
          { (s.setLane l { s.lane l with role := .standby }).lane m with role := .inControl }).role n := rfl
        rw [twice, State.setLane_role, State.setLane_role]
      have voting (n : Lane) : ((s.passControl l m).role n).voting = (s.role n).voting := by
        rw [role]
        split_ifs with hm hl
        · rw [hm, target]
          rfl
        · rw [hl, holder]
          rfl
        · rfl
      refine ⟨s.passControl l m, acts, fun _ _ => ⟨m, by rw [role, if_pos rfl]⟩, fun _ => ?_,
        fun ok => (State.roundOk_iff.mp ok).2.congr rfl voting, .inl ⟨rfl, rfl, rfl, rfl, rfl⟩⟩
      exact State.keepsRun_iff.mpr ⟨m, .inl (by rw [role, if_pos rfl]; rfl)⟩
    all_goals exact .refl roles

theorem Passes.handleReturn (roles : s.RolesOk) (fields : List Text) : Passes s (handleReturn l fields s).1 := by
  unfold Machine.handleReturn
  split
  · exact .refl roles
  · split_ifs with unheld
    case neg =>
      have held : s.role l = .held := not_not.mp unheld
      dsimp only
      unfold State.returnToVote
      dsimp only
      generalize hr : ({ (s.lane l).endHold with
        role := .standby, strikes := (s.lane l).carriedStrikes.getD 0, streak := (s.lane l).carriedStreak.getD 0
        quiet := some (s.expiry s.settings.quiet) } : LaneRec) = r
      have standby : r.role = .standby := by rw [← hr]
      have step : LaneStep s.settings (s.lane l) r := by rw [← hr]; exact .returned _ held
      have change : s.LaneChanges l r := ⟨step, fun _ => .inr (.inl held), fun control => by rw [standby] at control; cases control⟩
      have seats : (s.role l).seated = true → r.role.seated = true := fun _ => by rw [standby]; rfl
      generalize he : State.append (s.setLane l r) _ = u
      have acts : Acts s u := by rw [← he]; exact (Acts.single (.lane l r change seats)).then_append _
      have role (m : Lane) : u.role m = if m = l then r.role else s.role m := by rw [← he]; exact State.setLane_role ..
      have table : SameTable s u := by rw [← he]; exact ⟨rfl, rfl, rfl, rfl⟩
      have collecting : u.collecting = s.collecting := by rw [← he]; rfl
      refine ⟨_, acts.trans (.assignControl u), u.assignControl_controlled, State.assignControl_runs fun _ => ?_, fun ok c collects => ?_,
        .inl ⟨rfl, ?_⟩⟩
      · exact State.keepsRun_iff.mpr ⟨l, .inl (by rw [role, if_pos rfl, standby]; rfl)⟩
      · rw [State.assignControl_collecting, collecting] at collects
        obtain ⟨unsealed, -⟩ := ok.unseated c l collects (by rw [held]; rfl)
        refine State.ready_eq_false (.inl ⟨l, ?_, unsealed⟩)
        rw [State.role, (u.assignControl_promoted l).voting]
        have own : (u.lane l).role = .standby := (role l).trans (by rw [if_pos rfl, standby])
        rw [own]
        rfl
      · rw [State.assignControl_eq]
        split <;> exact table
    all_goals exact .refl roles

/-! ## The session -/

theorem Passes.handleOpen (roles : s.RolesOk) (included : s.role l ≠ .excluded) (fields : List Text) :
    Passes s (handleOpen l fields s).1 := by
  unfold Machine.handleOpen
  split_ifs with _ conf _ _
  case neg =>
    have conf : s.mode = .configure := not_not.mp conf
    exact .calm roles (.single (.opens l _ conf ((roles.configure conf l).resolve_right included)))
      (.of_same ⟨rfl, rfl, rfl, rfl⟩ (fun _ => rfl) rfl)
  all_goals exact .refl roles

theorem Passes.handleClose (roles : s.RolesOk) (fields : List Text) : Passes s (handleClose l fields s).1 := by
  unfold Machine.handleClose
  split_ifs
  case neg => exact .calm roles (.single .releases) (.of_same ⟨rfl, rfl, rfl, rfl⟩ (fun _ => rfl) rfl)
  all_goals exact .refl roles

/-- Another log changes nothing of the laws. -/
theorem Passes.log (roles : s.RolesOk) (log : FaultLog) : Passes s { s with log } :=
  .calm roles (.single (.apart s.clock s.inReset log s.ports s.pending)) (.of_same ⟨rfl, rfl, rfl, rfl⟩ (fun _ => rfl) rfl)

end requests

end Sys2Proof.Machine
end

section
/-! What a request can come to, by the laws it has to keep: an event of lanes and round, a change of the configuration in CONFIGURE, or
the entry of a mode. The statements about roles and the round follow. -/

namespace Sys2Proof.Machine

-- One proof after another: elaborated side by side, the proofs of the whole text need more memory than the check gives.
set_option Elab.async false

/-! ## The outcomes of a request -/

/-- What a request of the part can come to. -/
inductive Asked (s : State) : State → Prop
  | passes {t : State} (h : Passes s t) : Asked s t
  | point (p : PointNo) (d : PointDef) (conf : s.mode = .configure) (ok : d.Ok) : Asked s (s.definePoint p d)
  | drop (p : PointNo) (conf : s.mode = .configure) : Asked s ((s.setPoint p PointRec.blank).afterPointChange p)
  | bank (b : BankNo) (d : BankDef) (conf : s.mode = .configure) (range : 1 ≤ d.address ∧ d.address ≤ 31)
    (free : s.clash b d.address = none) : Asked s (s.defineBank b d)
  | removal (b : BankNo) (conf : s.mode = .configure) : Asked s (s.removeBank b)
  | setting (n : SettingName) (v : Nat) (conf : s.mode = .configure) (range : (settingRange n).1 ≤ v ∧ v ≤ (settingRange n).2) :
    Asked s (State.recomputeDigest { s with settings := s.settings.put n v })
  | starts (l : Lane) (conf : s.mode = .configure) (role : s.role l = .absent) (complete : s.missingBank = none) : Asked s (s.startUp l)
  | resumes (l : Lane) (safe : s.mode = .safe) (role : s.role l = .absent ∨ s.role l = .suspended) : Asked s (s.resumeRun l)
  | restarts (l : Lane) (left : s.mode ≠ .configure) (included : s.role l ≠ .excluded) : Asked s (s.restartPart l)

section asked
variable {s : State} {l : Lane}

theorem pointRange_ok {form : PointForm} {p : PointNo} {d : PointDef} (h : pointRange form = .ok (p, d)) : d.Ok := by
  cases form with
  | level n mn mx tol safe =>
    dsimp only [pointRange] at h
    split_ifs at h with _ low high tolerance inside
    obtain ⟨-, rfl⟩ := Prod.mk.inj (Except.ok.inj h)
    simp only [not_or, not_lt] at high inside tolerance
    exact ⟨inside.1, inside.2, not_le.mp high.2, high.1, tolerance⟩
  | discrete n safe =>
    dsimp only [pointRange] at h
    split_ifs at h with _ inside
    obtain ⟨-, rfl⟩ := Prod.mk.inj (Except.ok.inj h)
    exact ⟨Nat.zero_le _, not_lt.mp inside, rfl, rfl, rfl⟩

theorem Asked.handlePoint (roles : s.RolesOk) (conf : s.mode = .configure) (fields : List Text) : Asked s (handlePoint fields s).1 := by
  unfold Machine.handlePoint
  split
  · exact .passes (.refl roles)
  · split
    · exact .passes (.refl roles)
    next p d range => exact .point p d conf (pointRange_ok range)

theorem Asked.handleDrop (roles : s.RolesOk) (conf : s.mode = .configure) (fields : List Text) : Asked s (handleDrop fields s).1 := by
  unfold Machine.handleDrop
  split
  · exact .passes (.refl roles)
  · dsimp only
    split_ifs
    · exact .drop _ conf
    all_goals exact .passes (.refl roles)

theorem Asked.handleBank (roles : s.RolesOk) (conf : s.mode = .configure) (fields : List Text) : Asked s (handleBank fields s).1 := by
  unfold Machine.handleBank
  split
  · exact .passes (.refl roles)
  · unfold Machine.handleBankDefine
    split
    · split
      · exact .passes (.refl roles)
      next range =>
        split
        · exact .passes (.refl roles)
        · split
          · exact .passes (.refl roles)
          next free => exact .bank _ _ conf (by dsimp only; omega) free
    · exact .passes (.refl roles)
  · unfold Machine.handleBankRemove
    split_ifs
    · exact .removal _ conf
    all_goals exact .passes (.refl roles)

theorem Asked.handleSet (roles : s.RolesOk) (conf : s.mode = .configure) (fields : List Text) : Asked s (handleSet fields s).1 := by
  unfold Machine.handleSet
  split
  · exact .passes (.refl roles)
  · split_ifs with range
    · exact .passes (.refl roles)
    · exact .setting _ _ conf (by omega)

theorem Asked.handleStart (roles : s.RolesOk) (conf : s.mode = .configure) (included : s.role l ≠ .excluded) (fields : List Text) :
    Asked s (handleStart l fields s).1 := by
  unfold Machine.handleStart
  split
  · exact .passes (.refl roles)
  · split_ifs
    case neg =>
      split
      · exact .passes (.refl roles)
      next complete => exact .starts l conf ((roles.configure conf l).resolve_right included) complete
    all_goals exact .passes (.refl roles)

theorem Asked.handleResume (roles : s.RolesOk) (fields : List Text) : Asked s (handleResume l fields s).1 := by
  unfold Machine.handleResume
  split
  · exact .passes (.refl roles)
  · split
    · exact .passes (.refl roles)
    next safe =>
      split
      · exact .passes (.refl roles)
      next passed => exact .resumes l (not_not.mp safe) (State.of_entryRefusal passed)

theorem Asked.handleRestart (roles : s.RolesOk) (included : s.role l ≠ .excluded) (fields : List Text) :
    Asked s (handleRestart l fields s).1 := by
  unfold Machine.handleRestart
  split
  · exact .passes (.refl roles)
  · split
    · exact .passes (.refl roles)
    next run =>
      split
      · exact .passes (.refl roles)
      · exact .restarts l (by rw [run]; decide) included
    next safe =>
      split
      · exact .passes (.refl roles)
      · exact .restarts l (by rw [safe]; decide) included

/-- Every request comes to one of these. -/
theorem Asked.handleVerb (roles : s.RolesOk) (v : Verb) (allowed : s.role l ≠ .excluded ∨ servedExcluded v = true) (fields : List Text) :
    Asked s (handleVerb v l fields s).1 := by
  have included (unserved : servedExcluded v = false) : s.role l ≠ .excluded :=
    allowed.resolve_right (by rw [unserved]; decide)
  have checked {owner : State → State × List Text} (h : s.mode = .configure → Asked s (owner s).1) : Asked s (guarded l s owner).1 := by
    obtain same | ⟨conf, -, owned⟩ := guarded_cases l s owner
    · rw [same]
      exact .passes (.refl roles)
    · rw [owned]
      exact h conf
  have unchanged {t : State} (same : t = s) : Asked s t := by
    rw [same]
    exact .passes (.refl roles)
  cases v
  case point => exact checked fun conf => .handlePoint roles conf fields
  case drop => exact checked fun conf => .handleDrop roles conf fields
  case bank => exact checked fun conf => .handleBank roles conf fields
  case setSetting => exact checked fun conf => .handleSet roles conf fields
  case start => exact checked fun conf => .handleStart roles conf (included rfl) fields
  case resume => exact .handleResume roles fields
  case restart => exact .handleRestart roles (included rfl) fields
  case openSession => exact .passes (.handleOpen roles (included rfl) fields)
  case closeSession => exact .passes (.handleClose roles fields)
  case stage => exact .passes (.handleStage roles fields)
  case join => exact .passes (.handleJoin roles fields)
  case leave => exact .passes (.handleLeave roles fields)
  case handover => exact .passes (.handleHandover roles fields)
  case returnLane => exact .passes (.handleReturn roles fields)
  case faults =>
    obtain same | gone := handleFaults_cases l fields s
    · exact unchanged same
    · rw [Machine.handleVerb, gone]
      exact .passes (.log roles _)
  case ack =>
    obtain same | ⟨_, -, moved⟩ := handleAck_cases l fields s
    · exact unchanged same
    · rw [Machine.handleVerb, moved]
      exact .passes (.log roles _)
  case status => exact unchanged (plainReport_state ..)
  case lanes => exact unchanged (plainReport_state ..)
  case round => exact unchanged (plainReport_state ..)
  case digest => exact unchanged (plainReport_state ..)
  case points => exact unchanged (handlePoints_state ..)
  case banks => exact unchanged (handleBanks_state ..)
  -- SEAL is the last case left: its name is a keyword.
  next => exact .passes (.handleSeal roles fields)

end asked

/-! ## Deeds -/

/-- The deeds of the Apply Engine: the deadlines of banks and the events of the driver links. -/
def Deed.OfEngine : Deed → Prop
  | .settleReached .. | .surveyFallsDue _ | .frameSent _ | .replyTimeout .. | .frameReceived .. => True
  | _ => False

/-- What a deed of the part can come to: what a request can, or a move of the Apply Engine. -/
inductive Deed.Result (s : State) (d : Deed) : Prop
  | asked (h : Asked s (d.run s))
  | engine (part : EnginePart s (d.run s)) (moves : Moves s (d.run s)) (deed : d.OfEngine)

theorem Deed.result (d : Deed) {s : State} (roles : s.RolesOk) (allowed : d.Allowed s) : d.Result s := by
  cases d
  case rests => exact .asked (.passes (.refl roles))
  case handles v l fields => exact .asked (.handleVerb roles v allowed fields)
  case discards l w => exact .asked (.passes (.discardLine roles w))
  case powerFalls l => exact .asked (.passes (.powerFalls roles))
  case powerRises l => exact .asked (.passes (.powerRises roles))
  case roundTimeout => exact .asked (.passes (.roundTimeout roles))
  case quietExpires l => exact .asked (.passes (.quietExpires roles))
  case lossConfirmed l => exact .asked (.passes (.lossConfirmed roles))
  case holdExpires l => exact .asked (.passes (.holdExpires roles))
  case suspensionPasses l => exact .asked (.passes (.suspensionPasses roles))
  case sessionExpires => exact .asked (.passes (.sessionExpires roles))
  case settleReached b st => exact .engine (.settleReached s b st) (.settleReached s b st) trivial
  case surveyFallsDue b => exact .engine (.surveyFallsDue s b) (.surveyFallsDue s b) trivial
  case frameSent k => exact .engine (.frameSent s k) (.frameSent s k) trivial
  case replyTimeout k m => exact .engine (.replyTimeout s k m) (.replyTimeout s k m) trivial
  case frameReceived k bytes => exact .engine (.frameReceived s k bytes) (.frameReceived s k bytes) trivial

/-- A taken line is an event too. -/
theorem Passes.noteTaken {s : State} (roles : s.RolesOk) (l : Lane) : Passes s (s.noteTaken l) := by
  have heard : Acts s (s.setLane l ((s.lane l).restartQuiet (s.expiry s.settings.quiet))) := .same_role (.heard _) rfl
  have role := State.setLane_same_role (s := s) (l := l) (r := (s.lane l).restartQuiet (s.expiry s.settings.quiet)) rfl
  unfold State.noteTaken
  dsimp only
  split
  next holder =>
    have held : s.session = some l := holder
    exact .calm roles (heard.trans (.single (.idles _ (by rw [State.setLane_session, held]; rfl))))
      (.of_same ⟨rfl, rfl, rfl, rfl⟩ role rfl)
  · exact .calm roles heard (.of_same ⟨rfl, rfl, rfl, rfl⟩ role rfl)

/-- Time, ports, the queue and the holding in reset are none of the laws' business. -/
theorem Passes.apart {s : State} (roles : s.RolesOk) (clock : Moment) (inReset : Bool) (log : FaultLog) (ports : PerLane LanePort)
    (pending : List Instr) : Passes s { s with clock, inReset, log, ports, pending } :=
  .calm roles (.single (.apart clock inReset log ports pending)) (.of_same ⟨rfl, rfl, rfl, rfl⟩ (fun _ => rfl) rfl)

/-- What it takes of a law that includes those of the roles to be kept by every step: it is kept by the outcomes of a request, which
the events of lanes and round are among, and by the moves of the Apply Engine, and a reset brings it about. -/
structure KeptWithRoles (P : State → Prop) : Prop where
  roles : ∀ s, P s → s.RolesOk
  asked : ∀ s t, P s → Asked s t → P t
  engine : ∀ s (d : Deed), P s → d.Allowed s → d.OfEngine → EnginePart s (d.run s) →
    Moves s (d.run s) → P (d.run s)
  reset : ∀ power : PerLane PowerLine, (∀ l, power.get l ≠ .confirming) → P (State.afterReset power)

theorem KeptWithRoles.kept {P : State → Prop} (h : KeptWithRoles P) : Kept P where
  pending s cs hs := h.asked s _ hs (.passes (.apart (h.roles s hs) s.clock s.inReset s.log s.ports cs))
  ports s ps hs := h.asked s _ hs (.passes (.apart (h.roles s hs) s.clock s.inReset s.log ps s.pending))
  advance s dt hs := h.asked s _ hs (.passes (.apart (h.roles s hs) (s.clock.after dt) s.inReset s.log s.ports s.pending))
  taken s l hs := h.asked s _ hs (.passes (.noteTaken (h.roles s hs) l))
  deed d s allowed hs := by
    obtain asked | ⟨part, moves, other⟩ := d.result (h.roles s hs) allowed
    · exact h.asked s _ hs asked
    · exact h.engine s d hs allowed other part moves
  held := by
    have fresh : P State.reset := h.reset ⟨.high, .high, .high⟩ fun l => by cases l <;> exact nofun
    exact h.asked _ _ fresh (.passes (.apart (h.roles _ fresh) State.reset.clock true State.reset.log State.reset.ports State.reset.pending))
  reset := h.reset

end Sys2Proof.Machine
end

section
/-! The laws of the roles and of the round at START, RESUME, RESTART and a reset, and the statements about them. -/

namespace Sys2Proof.Machine

-- One proof after another: elaborated side by side, the proofs of the whole text need more memory than the check gives.
set_option Elab.async false

/-! ## START and RESTART, field by field -/

section entries
variable (s : State) (l : Lane)

theorem State.startUp_mode : (s.startUp l).mode = .run := by rw [State.startUp_eq]; rfl
theorem State.startUp_lanes : (s.startUp l).lanes = s.lanes.set l ((s.lane l).takeOffice (s.expiry s.settings.quiet)) := by
  rw [State.startUp_eq]; rfl
theorem State.startUp_collecting : (s.startUp l).collecting = some .empty := by rw [State.startUp_eq]; rfl
theorem State.startUp_round : (s.startUp l).round = 1 := by rw [State.startUp_eq]; rfl
theorem State.startUp_session : (s.startUp l).session = none := by rw [State.startUp_eq]; rfl
theorem State.startUp_idle : (s.startUp l).idle = none := by rw [State.startUp_eq]; rfl
theorem State.startUp_settings : (s.startUp l).settings = s.settings := by rw [State.startUp_eq]; rfl
theorem State.startUp_links : (s.startUp l).links = s.links := by rw [State.startUp_eq]; rfl
theorem State.startUp_point (p : PointNo) : (s.startUp l).point p = (s.point p).started := by
  rw [State.startUp_eq]
  simp [State.begun, State.point, State.append]
theorem State.startUp_bank (b : BankNo) : (s.startUp l).bank b = s.bankBegun b := by
  rw [State.startUp_eq]
  simp [State.bank, State.append]

theorem State.restartPart_mode : (s.restartPart l).mode = .configure := by rw [State.restartPart_eq]; rfl
theorem State.restartPart_lane (m : Lane) : (s.restartPart l).lane m = (s.lane m).restarted := by
  rw [State.restartPart_eq]
  exact PerLane.get_ofFn ..
theorem State.restartPart_collecting : (s.restartPart l).collecting = none := by rw [State.restartPart_eq]; rfl
theorem State.restartPart_round : (s.restartPart l).round = 0 := by rw [State.restartPart_eq]; rfl
theorem State.restartPart_summary : (s.restartPart l).summary = none := by rw [State.restartPart_eq]; rfl
theorem State.restartPart_session : (s.restartPart l).session = some l := by rw [State.restartPart_eq]; rfl
theorem State.restartPart_idle : (s.restartPart l).idle = some (s.expiry s.settings.session) := by rw [State.restartPart_eq]; rfl
theorem State.restartPart_settings : (s.restartPart l).settings = s.settings := by rw [State.restartPart_eq]; rfl
theorem State.restartPart_point (p : PointNo) : (s.restartPart l).point p = (s.point p).restarted := by
  rw [State.restartPart_eq]
  simp [State.point, State.append]
theorem State.restartPart_bank (b : BankNo) : (s.restartPart l).bank b = (s.bank b).restarted (decide (s.Serves b)) := by
  rw [State.restartPart_eq]
  simp [State.bank, State.append]
theorem State.restartPart_link (k : LinkNo) : (s.restartPart l).link k = (s.link k).restarted := by
  rw [State.restartPart_eq]
  cases k <;> rfl

end entries

/-! ## Roles -/

section roles
variable {s t : State} {l : Lane}

/-- A lane takes office: RUN begins with it IN_CONTROL and no lane else in the vote (R67). -/
theorem State.RolesOk.takesOffice (roles : s.RolesOk) (left : s.mode ≠ .run) (role : s.role l = .absent ∨ s.role l = .suspended)
    (run : t.mode = .run) {e : Moment} (lanes : t.lanes = s.lanes.set l ((s.lane l).takeOffice e))
    (collecting : t.collecting.isSome = true) (session : t.session = none) (idle : t.idle = none) : t.RolesOk := by
  have lane (m : Lane) : t.lane m = if m = l then (s.lane l).takeOffice e else s.lane m := by
    rw [State.lane, lanes, PerLane.get_set]
    rfl
  have outside (m : Lane) : (s.role m).counts = false := by
    cases mode : s.mode with
    | run => exact absurd mode left
    | configure => obtain h | h := roles.configure mode m <;> rw [h] <;> rfl
    | safe => obtain h | h | h := roles.safe mode m <;> rw [h] <;> rfl
  have others {m : Lane} {r : Role} (counts : r.counts = true) (here : t.role m = r) : m = l := by
    by_contra other
    have same : t.role m = s.role m := congrArg LaneRec.role ((lane m).trans (if_neg other))
    rw [← here, same, outside m] at counts
    cases counts
  have own : t.role l = .inControl := congrArg LaneRec.role ((lane l).trans (if_pos rfl))
  rw [State.rolesOk_iff]
  refine ⟨⟨fun conf => ?_, fun safe => ?_, fun m n hm hn => ?_, iff_of_true collecting run, fun m holder => ?_, ?_, fun m => ?_⟩,
    fun m standby => ⟨l, own⟩, fun _ => State.keepsRun_iff.mpr ⟨l, .inl (by rw [own]; rfl)⟩⟩
  · rw [run] at conf; cases conf
  · rw [run] at safe; cases safe
  · rw [others rfl hm, others rfl hn]
  · rw [session] at holder; cases holder
  · rw [idle, session]; rfl
  · rw [lane]
    split
    · exact (LaneStep.tookOffice (g := s.settings) e role).fits ((State.rolesOk_iff.mp roles).1.lanes l)
    · exact (State.rolesOk_iff.mp roles).1.lanes m

theorem State.RolesOk.startUp (roles : s.RolesOk) (conf : s.mode = .configure) (role : s.role l = .absent) : (s.startUp l).RolesOk :=
  roles.takesOffice (by rw [conf]; decide) (.inl role) (s.startUp_mode l) (s.startUp_lanes l) (by rw [State.startUp_collecting]; rfl)
    (s.startUp_session l) (s.startUp_idle l)

theorem State.RolesOk.no_session (roles : s.RolesOk) (left : s.mode ≠ .configure) : s.session = none ∧ s.idle = none := by
  have none_ : s.session = none := by
    by_contra some_
    obtain ⟨m, holder⟩ := Option.ne_none_iff_exists'.mp some_
    exact left (roles.session m holder).1
  have idle := roles.idle
  rw [none_] at idle
  exact ⟨none_, by simpa using idle⟩

theorem State.RolesOk.resumeRun (roles : s.RolesOk) (safe : s.mode = .safe) (role : s.role l = .absent ∨ s.role l = .suspended) :
    (s.resumeRun l).RolesOk := by
  obtain ⟨session, idle⟩ := roles.no_session (by rw [safe]; decide)
  exact roles.takesOffice (t := s.resumeRun l) (e := s.expiry s.settings.quiet) (by rw [safe]; decide) role rfl rfl rfl session idle

theorem State.RolesOk.restartPart (roles : s.RolesOk) (included : s.role l ≠ .excluded) : (s.restartPart l).RolesOk := by
  have role (m : Lane) : (s.restartPart l).role m = if s.role m = .excluded then .excluded else .absent := by
    rw [State.role, State.restartPart_lane]
    rfl
  have either (m : Lane) : (s.restartPart l).role m = .absent ∨ (s.restartPart l).role m = .excluded := by
    rw [role]
    split
    · exact .inr rfl
    · exact .inl rfl
  rw [State.rolesOk_iff]
  refine ⟨⟨fun _ => either, fun safe => ?_, fun m n control => ?_, ?_, fun m holder => ⟨s.restartPart_mode l, ?_⟩, ?_, fun m => ?_⟩,
    fun m standby => ?_, fun run => ?_⟩
  · rw [State.restartPart_mode] at safe; cases safe
  · obtain h | h := either m <;> rw [control] at h <;> cases h
  · rw [State.restartPart_mode, State.restartPart_collecting]
    exact iff_of_false nofun nofun
  · rw [State.restartPart_session] at holder
    rw [← Option.some.inj holder, role, if_neg included]
  · rw [State.restartPart_idle, State.restartPart_session]; rfl
  · rw [State.restartPart_lane]
    exact (LaneStep.restarted (g := s.settings)).fits ((State.rolesOk_iff.mp roles).1.lanes m)
  · obtain h | h := either m <;> rw [standby] at h <;> cases h
  · rw [State.restartPart_mode] at run; cases run

/-- A change of the configuration is none of the roles' business. -/
theorem State.RolesOk.reconfigures (roles : s.RolesOk) (h : Reconfigures s t) : t.RolesOk := by
  obtain rfl | ⟨points, banks, settings, rfl⟩ := h
  · exact roles
  · rw [State.rolesOk_iff] at roles ⊢
    exact ⟨roles.1.congr rfl rfl rfl rfl rfl, roles.2.1.of_roles fun _ => rfl, roles.2.2.of_roles rfl fun _ => rfl⟩

/-- What the requests of CONFIGURE leave is another configuration. -/
theorem Asked.cases (h : Asked s t) : Passes s t ∨ s.mode = .configure ∧ Reconfigures s t ∨
    (∃ l, s.mode = .configure ∧ s.role l = .absent ∧ t = s.startUp l) ∨
    (∃ l, s.mode = .safe ∧ (s.role l = .absent ∨ s.role l = .suspended) ∧ t = s.resumeRun l) ∨
    ∃ l, s.mode ≠ .configure ∧ s.role l ≠ .excluded ∧ t = s.restartPart l := by
  cases h with
  | passes h => exact .inl h
  | point | drop | bank | removal | setting => exact .inr (.inl ⟨‹_›, .inr ⟨_, _, _, rfl⟩⟩)
  | starts l conf role => exact .inr (.inr (.inl ⟨l, conf, role, rfl⟩))
  | resumes l safe role => exact .inr (.inr (.inr (.inl ⟨l, safe, role, rfl⟩)))
  | restarts l left included => exact .inr (.inr (.inr (.inr ⟨l, left, included, rfl⟩)))

theorem Asked.rolesOk (h : Asked s t) (roles : s.RolesOk) : t.RolesOk := by
  obtain passes | ⟨-, config⟩ | ⟨l, conf, role, rfl⟩ | ⟨l, safe, role, rfl⟩ | ⟨l, -, included, rfl⟩ := h.cases
  · exact passes.rolesOk roles
  · exact roles.reconfigures config
  · exact roles.startUp conf role
  · exact roles.resumeRun safe role
  · exact roles.restartPart included

end roles

/-! ## A reset -/

section reset
variable (power : PerLane PowerLine)

theorem State.afterReset_lane (l : Lane) : (State.afterReset power).lane l = LaneRec.reset (power.get l) := PerLane.get_ofFn ..

theorem LaneRec.reset_fits {p : PowerLine} (sampled : p ≠ .confirming) : (LaneRec.reset p).Fits :=
  .unseated rfl nofun rfl ⟨nofun, fun h => absurd h sampled⟩ nofun ⟨rfl, rfl, rfl, rfl⟩

theorem State.afterReset_rolesOk (sampled : ∀ l, power.get l ≠ .confirming) : (State.afterReset power).RolesOk := by
  have role (l : Lane) : (State.afterReset power).role l = .absent := by rw [State.role, State.afterReset_lane]; rfl
  rw [State.rolesOk_iff]
  refine ⟨⟨fun _ l => .inl (role l), nofun, fun l m control => ?_, ⟨nofun, nofun⟩, nofun, rfl, fun l => ?_⟩, fun l standby => ?_, nofun⟩
  · rw [role] at control; cases control
  · rw [State.afterReset_lane]
    exact LaneRec.reset_fits (sampled l)
  · rw [role] at standby; cases standby

theorem State.afterReset_roundOk : (State.afterReset power).RoundOk :=
  ⟨fun _ => ⟨rfl, rfl⟩, fun left => absurd rfl left, Nat.zero_le _, nofun, nofun, nofun, nofun⟩

end reset

/-- The laws of the roles are kept by every outcome of a request and by the engine. -/
theorem rolesOk_kept : KeptWithRoles State.RolesOk where
  roles _ h := h
  asked _ _ roles h := h.rolesOk roles
  engine _ _ roles _ _ part _ := roles.engine part
  reset := State.afterReset_rolesOk

/-- Settles O55. -/
theorem rolesKept : Obligations.RolesKept := fun _ _ roles h => rolesOk_kept.kept.step h roles

/-! ## The round -/

section round
variable {s t : State} {l : Lane}

/-- A round that has just come into being. -/
theorem State.RoundOk.of_empty (number : 1 ≤ t.round) (bound : t.round ≤ Config.maxRound) (left : t.mode ≠ .configure)
    (collecting : t.collecting = some .empty) : t.RoundOk := by
  have empty (c : Collecting) (collects : t.collecting = some c) : c = .empty :=
    (Option.some.inj (collecting.symm.trans collects)).symm
  rw [State.roundOk_iff]
  refine ⟨⟨fun conf => absurd conf left, fun _ => number, bound, fun c collects => ?_, fun c m collects _ => ?_,
    fun c m p v collects stage => ?_⟩, State.Blank.waiting empty⟩
  all_goals obtain rfl := empty c collects
  · exact ⟨nofun, fun h => absurd rfl h⟩
  · exact ⟨noLanes_get m, Collecting.empty_slot m⟩
  · rw [Collecting.empty_slot] at stage
    cases stage

/-- No round collects. -/
theorem State.RoundOk.of_none (cleared : t.mode = .configure → t.round = 0 ∧ t.summary = none)
    (number : t.mode ≠ .configure → 1 ≤ t.round) (bound : t.round ≤ Config.maxRound) (collecting : t.collecting = none) : t.RoundOk := by
  refine ⟨cleared, number, bound, fun c collects => ?_, fun c m collects => ?_, fun c m p v collects => ?_, fun c collects => ?_⟩
  all_goals rw [collecting] at collects; cases collects

theorem Asked.roundOk (h : Asked s t) (roles : s.RolesOk) (round : s.RoundOk) : t.RoundOk := by
  obtain passes | ⟨conf, config⟩ | ⟨l, -, -, rfl⟩ | ⟨l, safe, -, rfl⟩ | ⟨l, -, -, rfl⟩ := h.cases
  · exact passes.roundOk roles round
  · have idle : s.collecting = none := by
      have unset : ¬ s.collecting.isSome = true := fun h => by rw [roles.collecting.mp h] at conf; cases conf
      simpa using unset
    obtain rfl | ⟨points, banks, settings, rfl⟩ := config
    · exact round
    · exact .of_none round.cleared round.number round.bound idle
  · exact .of_empty (by rw [State.startUp_round]) (by rw [State.startUp_round]; decide) (by rw [State.startUp_mode]; decide)
      (s.startUp_collecting l)
  · exact .of_empty (round.number (by rw [safe]; decide)) round.bound nofun rfl
  · exact .of_none (fun _ => ⟨s.restartPart_round l, s.restartPart_summary l⟩) (fun left => absurd (s.restartPart_mode l) left)
      (by rw [State.restartPart_round]; decide) (s.restartPart_collecting l)

end round

theorem roundOk_kept : KeptWithRoles fun s => s.RolesOk ∧ s.RoundOk where
  roles _ h := h.1
  asked _ _ ok h := ⟨h.rolesOk ok.1, h.roundOk ok.1 ok.2⟩
  engine _ _ ok _ _ part moves := ⟨ok.1.engine part, ok.2.engine part moves.points⟩
  reset power sampled := ⟨State.afterReset_rolesOk power sampled, State.afterReset_roundOk power⟩

/-- Settles O56. -/
theorem roundKept : Obligations.RoundKept := fun _ _ roles round h => (roundOk_kept.kept.step h ⟨roles, round⟩).2

end Sys2Proof.Machine
end

section
/-! What the Apply Engine can make of a bank and its points at an event (chapters Bank Exchanges, Link Failover), and the laws of a
bank record by itself: that it fits its state, and that the counters of its links stay below their limits. -/

namespace Sys2Proof.Machine

-- One proof after another: elaborated side by side, the proofs of the whole text need more memory than the check gives.
set_option Elab.async false

/-! ## The moves of a bank -/

/-- How the end of the exchange `x` leaves the point `r` of slot `i`, a member of the pending set or not (R13, R14, R99, R101). -/
inductive SlotLeft (x : Exchange) (i : SlotNo) (r : PointRec) (member : Bool) : PointRec × Bool → Prop
  /-- A loaded point keeps its applied value, loses it, or gets the value loaded, and is reconciled. -/
  | reconciled (v : Nat) (applied : Option Nat) (entry : entryFor x.loaded i = some v)
    (value : applied = r.applied ∨ applied = none ∨ applied = some v) : SlotLeft x i r member (reconciled { r with applied })
  | unloaded (entry : x.phase = .survey ∨ entryFor x.loaded i = none) : SlotLeft x i r member (r, member)
  /-- A survey finds the applied value gone. -/
  | failed (entry : x.phase = .survey ∨ entryFor x.loaded i = none) (applied : r.applied.isSome = true) :
    SlotLeft x i r member ({ r with applied := none, state := .pending }, true)

/-- The slots that an APPLY of the bank `r` with the points `ps` loads (R96). -/
def BankRec.toLoad (r : BankRec) (ps : SlotNo → PointRec) : List Entry :=
  (List.finRange 8).filterMap fun i =>
    if (ps i).defn.isSome ∧ (r.resync = true ∨ r.pendingSet[i] = true) then (ps i).target.map (Entry.mk i) else none

/-- A move on link `k` of the bank `r` with the points `ps`, under the settings `g`. -/
inductive BankStep (g : Settings) (k : LinkNo) (r : BankRec) (ps : SlotNo → PointRec) : BankRec → (SlotNo → PointRec) → Prop
  /-- An exchange starts (R95, R96, R100). -/
  | starts (e : Exchange) (state : r.state = .active) (link : r.activeLink = some k) (idle : r.exchange = none) (own : e.link = k)
    (apply : r.Applies → e.phase = .load ∧ e.loaded = r.toLoad ps) (survey : ¬ r.Applies → e.phase = .survey ∧ e.loaded = []) :
    BankStep g k r ps { r with tag := e.tag, pendingSet := Vector.replicate 8 false, resync := false, exchange := some e }
      fun i => if ∃ y ∈ e.loaded, y.slot = i then { ps i with state := .loading } else ps i
  /-- The exchange goes on with another attempt or step (R97). -/
  | sends (x y : Exchange) (valid : Bool) (flight : r.exchange = some x) (own : x.link = k) (link : y.link = k)
    (loaded : y.loaded = x.loaded) (survey : y.phase = .survey → x.phase = .survey) :
    BankStep g k r ps { r with exchange := some y, links := r.links.set k ((r.links.get k).noted g.linkdecay valid) } ps
  /-- The exchange ends (R99, R101, R102). -/
  | ends (x : Exchange) (valid : Bool) (due : Moment) (f : SlotNo → PointRec × Bool) (flight : r.exchange = some x) (own : x.link = k)
    (left : ∀ i, SlotLeft x i (ps i) r.pendingSet[i] (f i)) :
    BankStep g k r ps { r with
      pendingSet := Vector.ofFn fun i => (f i).2, surveyDue := some due, exchange := none
      links := r.links.set k ((r.links.get k).noted g.linkdecay valid) } fun i => (f i).1
  /-- A link strike below LINKSTRIKES (R103). -/
  | counted (state : r.state = .active) (link : r.activeLink = some k) (limit : (r.links.get k).strikes + 1 ≠ g.linkstrikes) :
    BankStep g k r ps { r with links := r.links.set k { r.links.get k with strikes := (r.links.get k).strikes + 1, streak := 0 } } ps
  /-- The failover onto the other link (R109, R110). -/
  | failsOver (deadline : Moment) (state : r.state = .active) (link : r.activeLink = some k) (idle : r.exchange = none)
    (resync : r.resync = false) (good : (r.links.get k.other).mark = .good) :
    BankStep g k r ps { r with
      links := r.links.set k ⟨.failed, 0, 0⟩, activeLink := some k.other, state := .switching, settle := some deadline } ps
  /-- The disqualification (R109, R115). -/
  | retires (state : r.state = .active) (link : r.activeLink = some k) (idle : r.exchange = none)
    (bad : (r.links.get k.other).mark = .failed) :
    BankStep g k r ps { r with
      links := r.links.set k ⟨.failed, 0, 0⟩, activeLink := none, state := .disqualified, enable := false
      pendingSet := Vector.replicate 8 false, resync := false, settle := none, surveyDue := none }
      fun i => if (ps i).defn.isSome = true then { ps i with state := .off, applied := none } else ps i
  /-- The end of a settle period (R91, R113). -/
  | settles (state : r.state = .warming ∨ r.state = .switching) (link : r.activeLink = some k) :
    BankStep g k r ps { r with state := .active, resync := true, settle := none } ps

theorem BankStep.of_eq {g : Settings} {k : LinkNo} {r x y : BankRec} {ps qs us : SlotNo → PointRec} (h : BankStep g k r ps x qs)
    (bank : y = x) (points : ∀ i, us i = qs i) : BankStep g k r ps y us := by
  rw [bank, show us = qs from funext points]
  exact h

/-! ## A bank record fits its state -/

/-- The laws of a bank record by itself (R84, R85, R89, R108, R110, R115). -/
structure BankRec.Fits (r : BankRec) : Prop where
  enable : r.enable = true ↔ r.state = .warming ∨ r.state = .active ∨ r.state = .switching
  address : ∀ d, r.defn = some d → 1 ≤ d.address ∧ d.address ≤ 31
  active : r.activeLink = none ↔ r.state = .disqualified
  good : ∀ k, r.activeLink = some k → (r.links.get k).mark = .good
  failed : ∀ k, r.state = .disqualified → (r.links.get k).mark = .failed
  settle : r.settle.isSome = true ↔ r.state = .warming ∨ r.state = .switching
  resync : r.resync = true → r.state = .active ∧ r.exchange = none
  exchange : ∀ x, r.exchange = some x → r.state = .active ∧ r.activeLink = some x.link

/-- A bank that is started and not disqualified: WARMING, ACTIVE or SWITCHING. -/
def BankRec.Works (r : BankRec) : Prop := r.state = .warming ∨ r.state = .active ∨ r.state = .switching

section fits
variable {g : Settings} {k : LinkNo} {r x : BankRec} {ps qs : SlotNo → PointRec}

theorem LinkRec.noted_mark (n : LinkRec) (linkdecay : Nat) (valid : Bool) : (n.noted linkdecay valid).mark = n.mark := by
  unfold LinkRec.noted
  split_ifs <;> rfl

/-- A change of one link's counters leaves its mark. -/
theorem PerLink.mark_set (links : PerLink LinkRec) {n : LinkRec} (same : n.mark = (links.get k).mark) (j : LinkNo) :
    ((links.set k n).get j).mark = (links.get j).mark := by
  rw [PerLink.get_set]
  split
  next own => rw [own, same]
  · rfl

/-- An ACTIVE bank that stays ACTIVE on its link. -/
theorem BankRec.Fits.stays (fits : r.Fits) (was : r.state = .active) (state : x.state = .active) (link : x.activeLink = r.activeLink)
    (defn : x.defn = r.defn) (enable : x.enable = r.enable) (settle : x.settle = r.settle)
    (marks : ∀ j, (x.links.get j).mark = (r.links.get j).mark) (resync : x.resync = true → x.exchange = none)
    (exchange : ∀ e, x.exchange = some e → x.activeLink = some e.link) : x.Fits where
  enable := by rw [enable, state]; simpa only [was] using fits.enable
  address := by rw [defn]; exact fits.address
  active := by rw [link, state]; simpa only [was] using fits.active
  good j h := by rw [marks]; exact fits.good j (link ▸ h)
  failed j h := by rw [state] at h; cases h
  settle := by rw [settle, state]; simpa only [was] using fits.settle
  resync h := ⟨state, resync h⟩
  exchange e h := ⟨state, exchange e h⟩

/-- Where a move finds a bank: on its active link, and started. -/
theorem BankStep.found (h : BankStep g k r ps x qs) (fits : r.Fits) : r.activeLink = some k ∧ r.Works := by
  cases h with
  | starts _ state link | counted state link | failsOver _ state link | retires state link => exact ⟨link, .inr (.inl state)⟩
  | sends y _ _ flight own | ends y _ _ _ flight own =>
    obtain ⟨state, link⟩ := fits.exchange _ flight
    exact ⟨by rw [link, own], .inr (.inl state)⟩
  | settles state link => exact ⟨link, state.imp id .inr⟩

/-- Where a move leaves a bank: on its link, in the settle period of the other, or on none. -/
theorem BankStep.leaves (h : BankStep g k r ps x qs) (fits : r.Fits) :
    x.activeLink = some k ∨ x.activeLink = some k.other ∧ x.state = .switching ∨ x.activeLink = none := by
  have here := (h.found fits).1
  cases h with
  | starts | sends | ends | counted | settles => exact .inl here
  | failsOver => exact .inr (.inl ⟨rfl, rfl⟩)
  | retires => exact .inr (.inr rfl)

theorem BankStep.defn (h : BankStep g k r ps x qs) : x.defn = r.defn := by cases h <;> rfl

/-- A bank leaves its started states by disqualification alone. -/
theorem BankStep.state (h : BankStep g k r ps x qs) (fits : r.Fits) : x.Works ∨ x.state = .disqualified := by
  have works := (h.found fits).2
  cases h with
  | starts | sends | ends | counted => exact .inl works
  | failsOver => exact .inl (.inr (.inr rfl))
  | retires => exact .inr rfl
  | settles => exact .inl (.inr (.inl rfl))

/-- Every move keeps the bank record fitting its state. -/
theorem BankStep.fits (h : BankStep g k r ps x qs) (fits : r.Fits) : x.Fits := by
  cases h with
  | starts e state link idle own =>
    refine fits.stays state state rfl rfl rfl rfl (fun _ => rfl) nofun fun y flight => ?_
    rw [← Option.some.inj flight, own]
    exact link
  | sends y z valid flight own link =>
    obtain ⟨state, active⟩ := fits.exchange y flight
    refine fits.stays state state rfl rfl rfl rfl (PerLink.mark_set _ (LinkRec.noted_mark ..)) (fun set => ?_) fun w flight => ?_
    · have idle := (fits.resync set).2
      rw [flight] at idle
      cases idle
    · rw [← Option.some.inj flight, link, ← own]
      exact active
  | ends y valid due f flight =>
    obtain ⟨state, -⟩ := fits.exchange y flight
    exact fits.stays state state rfl rfl rfl rfl (PerLink.mark_set _ (LinkRec.noted_mark ..)) (fun _ => rfl) nofun
  | counted state =>
    exact fits.stays state state rfl rfl rfl rfl (PerLink.mark_set _ rfl) (fun set => (fits.resync set).2) fun y flight =>
      (fits.exchange y flight).2
  | failsOver deadline state link idle resync good =>
    refine ⟨?_, fits.address, ⟨nofun, nofun⟩, fun j active => ?_, nofun, ⟨fun _ => .inr rfl, fun _ => rfl⟩, fun set => ?_,
      fun y flight => ?_⟩
    · exact iff_of_true (fits.enable.mpr (.inr (.inl state))) (.inr (.inr rfl))
    · obtain rfl := Option.some.inj active
      exact (congrArg LinkRec.mark (PerLink.get_set_ne _ _ _ _ k.other_ne)).trans good
    · rw [show r.resync = false from resync] at set
      cases set
    · rw [idle] at flight
      cases flight
  | retires state link idle bad =>
    refine ⟨⟨nofun, nofun⟩, fits.address, ⟨fun _ => rfl, fun _ => rfl⟩, nofun, fun j _ => ?_, ⟨nofun, nofun⟩, nofun,
      fun y flight => ?_⟩
    · rw [PerLink.get_set]
      split
      · rfl
      next other =>
        obtain rfl : j = k.other := by cases j <;> cases k <;> simp [LinkNo.other] at other ⊢
        exact bad
    · rw [idle] at flight
      cases flight
  | settles state link =>
    have idle : r.exchange = none := by
      by_contra some_
      obtain ⟨y, flight⟩ := Option.ne_none_iff_exists'.mp some_
      rw [(fits.exchange y flight).1] at state
      simp at state
    refine ⟨?_, fits.address, ⟨fun none_ => ?_, nofun⟩, fits.good, nofun, ⟨nofun, nofun⟩, fun _ => ⟨rfl, idle⟩, fun y flight => ?_⟩
    · exact iff_of_true (fits.enable.mpr (state.imp id .inr)) (.inr (.inl rfl))
    · rw [link] at none_
      cases none_
    · rw [idle] at flight
      cases flight

end fits

/-! ## The counters of a bank's links -/

/-- Strikes and streak of both links lie below the settings that limit them (R84, R102, R103). -/
def BankRec.Counts (g : Settings) (r : BankRec) : Prop :=
  ∀ k, (r.links.get k).strikes < g.linkstrikes ∧ (r.links.get k).streak < g.linkdecay

section counts
variable {g : Settings} {k : LinkNo} {r x : BankRec} {ps qs : SlotNo → PointRec}

theorem BankRec.Counts.set (counts : r.Counts g) {n : LinkRec} (strikes : n.strikes < g.linkstrikes) (streak : n.streak < g.linkdecay)
    (links : x.links = r.links.set k n) : x.Counts g := by
  intro j
  rw [links, PerLink.get_set]
  split
  · exact ⟨strikes, streak⟩
  · exact counts j

theorem BankRec.Counts.noted (counts : r.Counts g) (range : g.InRange) (valid : Bool)
    (links : x.links = r.links.set k ((r.links.get k).noted g.linkdecay valid)) : x.Counts g := by
  obtain ⟨strikes, streak⟩ := counts k
  have decay_pos : 8 ≤ g.linkdecay := (range .linkdecay).1
  refine counts.set ?_ ?_ links <;> unfold LinkRec.noted <;> split_ifs <;> dsimp only <;> omega

/-- Every move keeps the counters of the links below their limits. -/
theorem BankStep.counts (h : BankStep g k r ps x qs) (range : g.InRange) (counts : r.Counts g) : x.Counts g := by
  have strikes_pos : 1 ≤ g.linkstrikes := (range .linkstrikes).1
  have decay_pos : 8 ≤ g.linkdecay := (range .linkdecay).1
  cases h with
  | starts | settles => exact counts
  | sends _ _ valid | ends _ valid => exact counts.noted range valid rfl
  | counted _ _ limit =>
    have below := (counts k).1
    refine counts.set ?_ ?_ rfl <;> dsimp only <;> omega
  | failsOver | retires => refine counts.set ?_ ?_ rfl <;> dsimp only <;> omega

end counts

end Sys2Proof.Machine
end

section
/-! Where a point stands with its bank (section 1.4), and that every move of the Apply Engine and every write of targets leaves the
points of a bank so. -/

namespace Sys2Proof.Machine

-- One proof after another: elaborated side by side, the proofs of the whole text need more memory than the check gives.
set_option Elab.async false

/-! ## The places of a point -/

/-- The exchange in flight of the bank has loaded slot `i` (R12, R96). -/
def BankRec.Loads (b : BankRec) (i : SlotNo) : Prop := ∃ x, b.exchange = some x ∧ (entryFor x.loaded i).isSome = true

/-- A point with a definition and a target, its values in range (R2, R3, R10). -/
structure PointRec.Valid (r : PointRec) : Prop where
  definition : ∀ d, r.defn = some d → d.Ok
  defined : r.defn.isSome = true
  aimed : r.target.isSome = true
  target : ∀ d v, r.defn = some d → r.target = some v → d.min ≤ v ∧ v ≤ d.max
  applied : ∀ d v, r.defn = some d → r.applied = some v → d.min ≤ v ∧ v ≤ d.max
  splits : r.splits ≤ Config.maxSplits

/-- Where the point `r` of slot `i` stands with the bank `b` (R8 to R15, R104). -/
inductive PointRec.Placed (b : BankRec) (i : SlotNo) (r : PointRec) : Prop
  | blank (eq : r = .blank) (out : b.pendingSet[i] = false) (free : ¬ b.Loads i)
  | inert (d : PointDef) (ok : d.Ok) (eq : r = .inert d) (out : b.pendingSet[i] = false) (free : ¬ b.Loads i)
    (idle : b.state = .unused ∨ b.state = .down)
  | settled (valid : r.Valid) (state : r.state = .settled) (applied : r.applied = r.target) (out : b.pendingSet[i] = false)
    (free : ¬ b.Loads i) (works : b.Works)
  | pending (valid : r.Valid) (state : r.state = .pending) (applied : r.applied ≠ r.target)
    (work : b.pendingSet[i] = true ∨ b.resync = true ∨ b.state = .warming ∨ b.state = .switching) (free : ¬ b.Loads i)
    (works : b.Works)
  | loading (valid : r.Valid) (state : r.state = .loading) (loads : b.Loads i) (works : b.Works)
  | off (valid : r.Valid) (state : r.state = .off) (applied : r.applied = none) (out : b.pendingSet[i] = false) (free : ¬ b.Loads i)
    (disqualified : b.state = .disqualified)

/-- The entries that an exchange has loaded ascend and are values of defined points; a SURVEY has none (R93, R96, R100). -/
def Exchange.Fits (x : Exchange) (ps : SlotNo → PointRec) : Prop :=
  ascending x.loaded = true ∧ (x.phase = .survey → x.loaded = []) ∧
    ∀ e ∈ x.loaded, ∃ d, (ps e.slot).defn = some d ∧ d.min ≤ e.value ∧ e.value ≤ d.max

/-- A bank with its points: each stands in its place, and what is loaded fits them. -/
structure RowFits (b : BankRec) (ps : SlotNo → PointRec) : Prop where
  placed : ∀ i, (ps i).Placed b i
  loaded : ∀ x, b.exchange = some x → x.Fits ps

section places
variable {b c : BankRec} {i : SlotNo} {r : PointRec} {ps : SlotNo → PointRec}

theorem BankRec.not_loads (idle : b.exchange = none) : ¬ b.Loads i := fun ⟨_, flight, _⟩ => (nomatch idle.symm.trans flight)

theorem BankRec.loads_iff {x : Exchange} (flight : b.exchange = some x) : b.Loads i ↔ (entryFor x.loaded i).isSome = true :=
  ⟨fun ⟨_, g, entry⟩ => Option.some.inj (flight.symm.trans g) ▸ entry, fun entry => ⟨x, flight, entry⟩⟩

theorem BankRec.Works.ne_disqualified (works : b.Works) : b.state ≠ .disqualified := by
  obtain h | h | h := works <;> rw [h] <;> decide

theorem BankRec.Works.not_idle (works : b.Works) : ¬ (b.state = .unused ∨ b.state = .down) := by
  obtain h | h | h := works <;> rw [h] <;> decide

theorem PointRec.not_defined_blank : ¬ PointRec.blank.defn.isSome = true := nofun

/-- A defined point of a started bank. -/
theorem PointRec.Placed.valid (h : r.Placed b i) (works : b.Works) (defined : r.defn.isSome = true) : r.Valid := by
  cases h with
  | blank eq => rw [eq] at defined; cases defined
  | inert _ _ _ _ _ idle => exact absurd idle works.not_idle
  | settled valid | pending valid | loading valid | off valid => exact valid

/-- A point of a started bank stays in its place while its bank does for it what it did. -/
theorem PointRec.Placed.stays (h : r.Placed b i) (was : b.Works) (is : c.Works) (out : b.pendingSet[i] = false → c.pendingSet[i] = false)
    (loads : c.Loads i ↔ b.Loads i)
    (work : b.pendingSet[i] = true ∨ b.resync = true ∨ b.state = .warming ∨ b.state = .switching →
      c.pendingSet[i] = true ∨ c.resync = true ∨ c.state = .warming ∨ c.state = .switching) : r.Placed c i := by
  cases h with
  | blank eq o free => exact .blank eq (out o) (loads.not.mpr free)
  | inert _ _ _ _ _ idle => exact absurd idle was.not_idle
  | settled valid state applied o free => exact .settled valid state applied (out o) (loads.not.mpr free) is
  | pending valid state applied w free => exact .pending valid state applied (work w) (loads.not.mpr free) is
  | loading valid state l => exact .loading valid state (loads.mpr l) is
  | off _ _ _ _ _ disqualified => exact absurd disqualified was.ne_disqualified

/-- A reconciled point is SETTLED or PENDING (R13). -/
theorem reconciled_placed (valid : r.Valid) (free : ¬ b.Loads i) (works : b.Works) (member : b.pendingSet[i] = (reconciled r).2) :
    (reconciled r).1.Placed b i := by
  unfold reconciled at member ⊢
  split at member
  next same =>
    rw [if_pos same]
    exact .settled ⟨valid.definition, valid.defined, valid.aimed, valid.target, valid.applied, valid.splits⟩ rfl same.2 member free works
  next other =>
    rw [if_neg other]
    refine .pending ⟨valid.definition, valid.defined, valid.aimed, valid.target, valid.applied, valid.splits⟩ rfl ?_ (.inl member)
      free works
    intro (same : r.applied = r.target)
    exact other ⟨same ▸ valid.aimed, same⟩

/-! ## What an APPLY loads -/

theorem BankRec.mem_toLoad {e : Entry} : e ∈ b.toLoad ps ↔ (ps e.slot).defn.isSome = true ∧
    (b.resync = true ∨ b.pendingSet[e.slot] = true) ∧ (ps e.slot).target = some e.value := by
  simp only [BankRec.toLoad, List.mem_filterMap, List.mem_finRange, true_and, Option.ite_none_right_eq_some, Option.map_eq_some_iff]
  constructor
  · rintro ⟨i, ⟨defined, work⟩, v, target, rfl⟩
    exact ⟨defined, work, target⟩
  · rintro ⟨defined, work, target⟩
    exact ⟨e.slot, ⟨defined, work⟩, e.value, target, rfl⟩

theorem BankRec.ascending_toLoad : ascending (b.toLoad ps) = true := by
  rw [ascending_iff, BankRec.toLoad, List.pairwise_filterMap]
  refine (List.pairwise_lt_finRange 8).imp fun {i j} less e he f hf => ?_
  obtain ⟨-, he⟩ := Option.ite_none_right_eq_some.mp he
  obtain ⟨-, hf⟩ := Option.ite_none_right_eq_some.mp hf
  obtain ⟨_, -, rfl⟩ := Option.map_eq_some_iff.mp he
  obtain ⟨_, -, rfl⟩ := Option.map_eq_some_iff.mp hf
  exact less

theorem Exchange.Fits.of_defn {x y : Exchange} {qs : SlotNo → PointRec} (fits : x.Fits ps) (loaded : y.loaded = x.loaded)
    (survey : y.phase = .survey → x.phase = .survey) (defn : ∀ i, (qs i).defn = (ps i).defn) : y.Fits qs := by
  obtain ⟨sorted, empty, values⟩ := fits
  unfold Exchange.Fits
  simp only [loaded, defn]
  exact ⟨sorted, fun h => empty (survey h), values⟩

end places

/-! ## The moves of a bank -/

section moves
variable {g : Settings} {k : LinkNo} {b c : BankRec} {ps qs : SlotNo → PointRec}

theorem reconciled_defn (r : PointRec) : (reconciled r).1.defn = r.defn := reconcile_defn r

theorem SlotLeft.defn {x : Exchange} {i : SlotNo} {r : PointRec} {m : Bool} {out : PointRec × Bool} (h : SlotLeft x i r m out) :
    out.1.defn = r.defn := by
  cases h with
  | reconciled => exact reconciled_defn _
  | unloaded | failed => rfl

theorem SlotLeft.target {x : Exchange} {i : SlotNo} {r : PointRec} {m : Bool} {out : PointRec × Bool} (h : SlotLeft x i r m out) :
    out.1.target = r.target := by
  cases h with
  | reconciled => unfold Sys2Proof.Machine.reconciled; split <;> rfl
  | unloaded | failed => rfl

/-- A move leaves the definitions of the points. -/
theorem BankStep.points_defn (h : BankStep g k b ps c qs) (i : SlotNo) : (qs i).defn = (ps i).defn := by
  cases h with
  | starts => dsimp only; split <;> rfl
  | ends _ _ _ _ _ _ left => exact (left i).defn
  | retires => dsimp only; split <;> rfl
  | sends | counted | failsOver | settles => rfl

/-- A move leaves the targets of the points. -/
theorem BankStep.points_target (h : BankStep g k b ps c qs) (i : SlotNo) : (qs i).target = (ps i).target := by
  cases h with
  | starts => dsimp only; split <;> rfl
  | ends _ _ _ _ _ _ left => exact (left i).target
  | retires => dsimp only; split <;> rfl
  | sends | counted | failsOver | settles => rfl

/-- A slot whose exchange has ended. -/
theorem SlotLeft.placed {x : Exchange} {i : SlotNo} {r : PointRec} {out : PointRec × Bool} (h : SlotLeft x i r b.pendingSet[i] out)
    (flight : b.exchange = some x) (fits : x.Fits ps) (here : ps i = r) (placed : r.Placed b i) (was : b.Works) (is : c.Works)
    (idle : c.exchange = none) (resync : b.state = .active ∧ b.resync = false) (member : c.pendingSet[i] = out.2) : out.1.Placed c i := by
  have free : ¬ c.Loads i := BankRec.not_loads idle
  have loads := BankRec.loads_iff (i := i) flight
  have unloaded (entry : x.phase = .survey ∨ entryFor x.loaded i = none) : ¬ b.Loads i := by
    obtain survey | none := entry
    · rw [loads, fits.2.1 survey]; exact nofun
    · rw [loads, none]; exact nofun
  cases h with
  | reconciled v a entry value =>
    have loading : b.Loads i := loads.mpr (by rw [entry]; rfl)
    cases placed with
    | loading valid =>
      refine reconciled_placed ⟨valid.definition, valid.defined, valid.aimed, valid.target, fun d w defn applied => ?_, valid.splits⟩
        free is member
      obtain rfl | rfl | rfl := value
      · exact valid.applied d w defn applied
      · cases applied
      · obtain rfl := Option.some.inj applied
        obtain ⟨sorted, -, values⟩ := fits
        obtain ⟨e, he, range⟩ := values ⟨i, v⟩ ((entryFor_eq_some sorted).mp entry)
        rw [here, show r.defn = some d from defn] at he
        obtain rfl := Option.some.inj he
        exact range
    | blank _ _ free | inert _ _ _ _ free | settled _ _ _ _ free | pending _ _ _ _ free | off _ _ _ _ free => exact absurd loading free
  | unloaded entry =>
    have same : c.Loads i ↔ b.Loads i := iff_of_false free (unloaded entry)
    refine placed.stays was is (fun out => by rw [member, out]) same fun work => ?_
    obtain set | set | state | state := work
    · exact .inl (by rw [member, set])
    · rw [resync.2] at set; cases set
    all_goals rw [resync.1] at state; cases state
  | failed entry applied =>
    have fails (valid : r.Valid) : PointRec.Placed c i { r with applied := none, state := .pending } := by
      refine .pending ⟨valid.definition, valid.defined, valid.aimed, valid.target, nofun, valid.splits⟩ rfl ?_ (.inl member) free is
      intro (same : none = r.target)
      have aimed := valid.aimed
      rw [← same] at aimed
      cases aimed
    cases placed with
    | blank eq => rw [eq] at applied; cases applied
    | inert _ _ _ _ _ idle => exact absurd idle was.not_idle
    | settled valid | pending valid => exact fails valid
    | loading _ _ loads => exact absurd loads (unloaded entry)
    | off _ _ _ _ _ disqualified => exact absurd disqualified was.ne_disqualified

/-- A slot of a bank whose exchange starts. -/
theorem PointRec.Placed.starts {e : Exchange} {i : SlotNo} (placed : (ps i).Placed b i) (state : b.state = .active)
    (idle : b.exchange = none) (apply : b.Applies → e.phase = .load ∧ e.loaded = b.toLoad ps)
    (survey : ¬ b.Applies → e.phase = .survey ∧ e.loaded = []) (is : c.Works) (flight : c.exchange = some e)
    (empty : c.pendingSet[i] = false) : PointRec.Placed c i (if ∃ y ∈ e.loaded, y.slot = i then { ps i with state := .loading } else ps i) := by
  have works : b.Works := .inr (.inl state)
  have loads : c.Loads i ↔ ∃ y ∈ e.loaded, y.slot = i := (BankRec.loads_iff flight).trans entryFor_isSome
  have member : (∃ y ∈ e.loaded, y.slot = i) ↔
      (ps i).defn.isSome = true ∧ (b.resync = true ∨ b.pendingSet[i] = true) ∧ (ps i).target.isSome = true := by
    by_cases applies : b.Applies
    · rw [(apply applies).2]
      constructor
      · rintro ⟨y, mem, rfl⟩
        obtain ⟨defined, work, target⟩ := BankRec.mem_toLoad.mp mem
        exact ⟨defined, work, by rw [target]; rfl⟩
      · rintro ⟨defined, work, aimed⟩
        obtain ⟨v, target⟩ := Option.isSome_iff_exists.mp aimed
        exact ⟨⟨i, v⟩, BankRec.mem_toLoad.mpr ⟨defined, work, target⟩, rfl⟩
    · rw [(survey applies).2]
      refine iff_of_false (by simp) fun h => applies ?_
      exact h.2.1.symm.imp (fun set => ⟨i, set⟩) id
  split
  next mem =>
    obtain ⟨defined, -, -⟩ := member.mp mem
    have valid := placed.valid works defined
    exact .loading ⟨valid.definition, valid.defined, valid.aimed, valid.target, valid.applied, valid.splits⟩ rfl (loads.mpr mem) is
  next out =>
    have free : ¬ c.Loads i := loads.not.mpr out
    cases placed with
    | blank eq => exact .blank eq empty free
    | inert _ _ _ _ _ unused => exact absurd unused works.not_idle
    | settled valid state applied => exact .settled valid state applied empty free is
    | pending valid _ _ work =>
      refine absurd (member.mpr ⟨valid.defined, ?_, valid.aimed⟩) out
      obtain set | set | warming | switching := work
      · exact .inr set
      · exact .inl set
      all_goals rw [state] at *; contradiction
    | loading _ _ loads => exact absurd loads (BankRec.not_loads idle)
    | off _ _ _ _ _ disqualified => exact absurd disqualified works.ne_disqualified

/-- A slot of a bank that is disqualified. -/
theorem PointRec.Placed.retires {i : SlotNo} {r : PointRec} (placed : r.Placed b i) (was : b.Works) (disqualified : c.state = .disqualified)
    (idle : c.exchange = none) (empty : c.pendingSet[i] = false) :
    PointRec.Placed c i (if r.defn.isSome = true then { r with state := .off, applied := none } else r) := by
  split
  next defined =>
    have valid := placed.valid was defined
    exact .off ⟨valid.definition, valid.defined, valid.aimed, valid.target, nofun, valid.splits⟩ rfl rfl empty
      (BankRec.not_loads idle) disqualified
  next undefined =>
    cases placed with
    | blank eq => exact .blank eq empty (BankRec.not_loads idle)
    | inert _ _ _ _ _ unused => exact absurd unused was.not_idle
    | settled valid | pending valid | loading valid | off valid => exact absurd valid.defined undefined

/-- Every move keeps the points of the bank in their places. -/
theorem BankStep.rowFits (h : BankStep g k b ps c qs) (bank : b.Fits) (row : RowFits b ps) : RowFits c qs := by
  have works := (h.found bank).2
  have active_works : b.state = .active → b.Works := fun state => .inr (.inl state)
  cases h with
  | starts e state link idle own apply survey =>
    refine ⟨fun i => (row.placed i).starts state idle apply survey works rfl (Vector.getElem_replicate i.isLt), fun x flight => ?_⟩
    obtain rfl := Option.some.inj flight
    refine .of_defn (x := e) (ps := ps) ?_ rfl id fun i => by split <;> rfl
    by_cases applies : b.Applies
    · obtain ⟨phase, loaded⟩ := apply applies
      refine ⟨by rw [loaded]; exact BankRec.ascending_toLoad, fun h => ?_, fun y mem => ?_⟩
      · rw [phase] at h
        cases h
      · rw [loaded] at mem
        obtain ⟨defined, -, target⟩ := BankRec.mem_toLoad.mp mem
        obtain ⟨d, defn⟩ := Option.isSome_iff_exists.mp defined
        exact ⟨d, defn, ((row.placed y.slot).valid works defined).target d y.value defn target⟩
    · obtain ⟨-, loaded⟩ := survey applies
      rw [Exchange.Fits, loaded]
      exact ⟨rfl, fun _ => rfl, nofun⟩
  | sends x y valid flight own link loaded survey =>
    have loads (i : SlotNo) : BankRec.Loads { b with
        exchange := some y, links := b.links.set k ((b.links.get k).noted g.linkdecay valid) } i ↔ b.Loads i := by
      rw [BankRec.loads_iff flight, BankRec.loads_iff (x := y) rfl, loaded]
    refine ⟨fun i => (row.placed i).stays works works id (loads i) id, fun z flies => ?_⟩
    obtain rfl := Option.some.inj flies
    exact (row.loaded x flight).of_defn loaded survey fun _ => rfl
  | ends x valid due f flight own left =>
    obtain ⟨state, -⟩ := bank.exchange x flight
    have unset : b.resync = false := Bool.eq_false_iff.mpr fun set => (nomatch (bank.resync set).2.symm.trans flight)
    exact ⟨fun i => (left i).placed flight (row.loaded x flight) rfl (row.placed i) works works rfl ⟨state, unset⟩
      (Vector.getElem_ofFn i.isLt), nofun⟩
  | counted => exact ⟨fun i => (row.placed i).stays works works id Iff.rfl id, row.loaded⟩
  | failsOver =>
    exact ⟨fun i => (row.placed i).stays works (.inr (.inr rfl)) id Iff.rfl fun _ => .inr (.inr (.inr rfl)), row.loaded⟩
  | retires state link idle bad =>
    exact ⟨fun i => (row.placed i).retires works rfl idle (Vector.getElem_replicate i.isLt), fun x flight => (nomatch idle.symm.trans flight)⟩
  | settles => exact ⟨fun i => (row.placed i).stays works (.inr (.inl rfl)) id Iff.rfl fun _ => .inr (.inl rfl), row.loaded⟩

end moves

end Sys2Proof.Machine
end

section
/-! Target writes on a point in its place (R9, R10, R11): the results of a close and the safe values of SAFE entry. -/

namespace Sys2Proof.Machine

-- One proof after another: elaborated side by side, the proofs of the whole text need more memory than the check gives.
set_option Elab.async false

/-! ## A single write -/

section write
variable {b c : BankRec} {i : SlotNo} {r x : PointRec} {v : Nat}

/-- The round of the last change and the split count are none of the place's business. -/
theorem PointRec.Placed.mark (placed : r.Placed b i) (aimed : r.target.isSome = true) {n : Nat} (splits : n ≤ Config.maxSplits)
    (changed : Option Nat) : PointRec.Placed b i { r with splits := n, changed } := by
  have marked (valid : r.Valid) : PointRec.Valid { r with splits := n, changed } :=
    ⟨valid.definition, valid.defined, valid.aimed, valid.target, valid.applied, splits⟩
  cases placed with
  | blank eq => rw [eq] at aimed; cases aimed
  | inert _ _ eq => rw [eq] at aimed; cases aimed
  | settled valid state applied out free works => exact .settled (marked valid) state applied out free works
  | pending valid state applied work free works => exact .pending (marked valid) state applied work free works
  | loading valid state loads works => exact .loading (marked valid) state loads works
  | off valid state applied out free disqualified => exact .off (marked valid) state applied out free disqualified

theorem PointRec.Placed.splits_le (placed : r.Placed b i) : r.splits ≤ Config.maxSplits := by
  cases placed with
  | blank eq => rw [eq]; decide
  | inert d _ eq => rw [eq]; exact Nat.zero_le _
  | settled valid | pending valid | loading valid | off valid => exact valid.splits

/-- But for the pending set, bank `c` is as `b`. -/
def SameButPending (b c : BankRec) : Prop := c = { b with pendingSet := c.pendingSet }

section same
variable (h : SameButPending b c)
include h

theorem SameButPending.eq : c = { b with pendingSet := c.pendingSet } := h
theorem SameButPending.state : c.state = b.state := by rw [h.eq]
theorem SameButPending.resync : c.resync = b.resync := by rw [h.eq]
theorem SameButPending.exchange : c.exchange = b.exchange := by rw [h.eq]
theorem SameButPending.loads : c.Loads i ↔ b.Loads i := by rw [BankRec.Loads, BankRec.Loads, h.exchange]
theorem SameButPending.works (works : b.Works) : c.Works := by rw [BankRec.Works, h.state]; exact works

/-- A point keeps its place where its membership stays. -/
theorem PointRec.Placed.same (placed : r.Placed b i) (member : c.pendingSet[i] = b.pendingSet[i]) : r.Placed c i := by
  cases placed with
  | blank eq out free => exact .blank eq (member.trans out) (h.loads.not.mpr free)
  | inert d ok eq out free idle => exact .inert d ok eq (member.trans out) (h.loads.not.mpr free) (by rwa [h.state])
  | settled valid state applied out free works =>
    exact .settled valid state applied (member.trans out) (h.loads.not.mpr free) (h.works works)
  | pending valid state applied work free works =>
    exact .pending valid state applied (by rwa [member, h.resync, h.state]) (h.loads.not.mpr free) (h.works works)
  | loading valid state loads works => exact .loading valid state (h.loads.mpr loads) (h.works works)
  | off valid state applied out free disqualified =>
    exact .off valid state applied (member.trans out) (h.loads.not.mpr free) (h.state.trans disqualified)

/-- A write of a value in the point's range leaves the point in its place (R9). -/
theorem PointRec.Placed.write (placed : r.Placed b i) (range : ∀ d, r.defn = some d → d.min ≤ v ∧ v ≤ d.max)
    (member : c.pendingSet[i] = (writeTarget v r b.pendingSet[i]).2) : (writeTarget v r b.pendingSet[i]).1.Placed c i := by
  by_cases same : r.target = some v
  · rw [writeTarget_same _ same] at member ⊢
    exact placed.same h member
  have aims (valid : r.Valid) (st : PointState) : PointRec.Valid { r with target := some v, state := st } :=
    ⟨valid.definition, valid.defined, rfl, fun d w defn target => Option.some.inj target ▸ range d defn, valid.applied, valid.splits⟩
  cases placed with
  | blank eq out free =>
    rw [writeTarget_untargeted _ (.inr (by rw [eq]; rfl))] at member ⊢
    exact .blank eq (member.trans out) (h.loads.not.mpr free)
  | inert d ok eq out free idle =>
    rw [writeTarget_untargeted _ (.inl (by rw [eq]; rfl))] at member ⊢
    exact .inert d ok eq (member.trans out) (h.loads.not.mpr free) (by rwa [h.state])
  | settled valid state applied out free works =>
    rw [writeTarget_settled _ same state] at member ⊢
    exact .pending (aims valid _) rfl (applied ▸ same) (.inl member) (h.loads.not.mpr free) (h.works works)
  | pending valid state applied work free works =>
    by_cases returned : r.applied = some v
    · rw [writeTarget_pending_applied _ same state returned] at member ⊢
      exact .settled (aims valid _) rfl returned member (h.loads.not.mpr free) (h.works works)
    · rw [writeTarget_pending _ same state returned] at member ⊢
      exact .pending (aims valid r.state) state returned (.inl member) (h.loads.not.mpr free) (h.works works)
  | loading valid state loads works =>
    rw [writeTarget_loading _ same state] at member ⊢
    exact .loading (aims valid r.state) state (h.loads.mpr loads) (h.works works)
  | off valid state applied out free disqualified =>
    rw [writeTarget_off _ same state] at member ⊢
    exact .off (aims valid r.state) state applied (member.trans out) (h.loads.not.mpr free) (h.state.trans disqualified)

/-- A point that takes its result (R10). -/
theorem PointRec.Placed.take {round : Nat} {vote : PointVote} (placed : r.Placed b i) (aimed : r.target.isSome = true)
    (range : ∀ d v, r.defn = some d → vote.target = some v → d.min ≤ v ∧ v ≤ d.max)
    (member : c.pendingSet[i] = (takeResult round vote r b.pendingSet[i]).2) :
    (takeResult round vote r b.pendingSet[i]).1.Placed c i := by
  have splits (n : Nat) (bound : n ≤ Config.maxSplits) :
      (if vote.outcome.splits then min (n + 1) Config.maxSplits else n) ≤ Config.maxSplits := by split <;> omega
  have bound := placed.splits_le
  cases result : vote.target with
  | none =>
    rw [takeResult_none _ _ _ result] at member ⊢
    exact (placed.same h member).mark aimed (splits _ bound) r.changed
  | some v =>
    rw [takeResult_some _ _ _ result] at member ⊢
    have written := placed.write h (fun d defn => range d v defn result) member
    refine written.mark ?_ (splits _ bound) _
    obtain ⟨same, -⟩ | ⟨_, _, moved⟩ := writeTarget_cases v r b.pendingSet[i]
    · rw [same]; exact aimed
    · rw [moved]; rfl

/-- A point that takes its safe value (R11). -/
theorem PointRec.Placed.safeWritten (placed : r.Placed b i) (ok : ∀ d, r.defn = some d → d.Ok)
    (member : c.pendingSet[i] = (safeWritten (r, b.pendingSet[i])).2) : (safeWritten (r, b.pendingSet[i])).1.Placed c i := by
  unfold Sys2Proof.Machine.safeWritten at member ⊢
  dsimp only at member ⊢
  cases defn : r.defn with
  | none =>
    simp only [defn] at member ⊢
    exact placed.same h member
  | some d =>
    simp only [defn] at member ⊢
    split at member
    next same =>
      rw [if_pos same]
      exact placed.same h member
    next other =>
      rw [if_neg other]
      have low := (ok d defn).1
      have high := (ok d defn).2.1
      have written := placed.write h (v := d.safe) (fun e he => by
        obtain rfl := Option.some.inj (defn.symm.trans he)
        exact ⟨low, high⟩) member
      obtain ⟨same, unaimed | idle⟩ | ⟨st, m, moved⟩ := writeTarget_cases d.safe r b.pendingSet[i]
      · exact absurd unaimed other
      · rw [same] at written ⊢
        cases written with
        | blank eq =>
          have eq : r = .blank := eq
          rw [eq] at defn
          cases defn
        | inert e ok eq out free idle =>
          have eq : r = .inert e := eq
          exact .inert e ok (by rw [eq]; rfl) out free idle
        | settled _ state | pending _ state | loading _ state | off _ state => rw [state] at idle; simp at idle
      · rw [moved] at written ⊢
        exact written.mark rfl placed.splits_le none

end same

end write

/-! ## Results in range -/

/-- The result of a vote lies in every range that holds all opinions (R32 to R34). -/
theorem votePoint_bounds {tol : Nat} {control : Option Lane} {opinions : List (Lane × Nat)} {low high v : Nat}
    (range : ∀ o ∈ opinions, low ≤ o.2 ∧ o.2 ≤ high) (result : (votePoint tol control opinions).target = some v) :
    low ≤ v ∧ v ≤ high := by
  unfold votePoint at result
  split at result
  · cases result
  next o =>
    rw [← Option.some.inj result]
    exact range o (by simp)
  next o q =>
    split at result <;> rw [← Option.some.inj result]
    · exact range q (by simp)
    · exact range o (by simp)
  next o q r =>
    have result : some (median3 o.2 q.2 r.2) = some v := by
      unfold voteThree at result
      split at result
      · exact result
      · exact result
      · cases result
    rw [← Option.some.inj result]
    obtain median | median | median := median3_eq o.2 q.2 r.2 <;> rw [median]
    · exact range o (by simp)
    · exact range q (by simp)
    · exact range r (by simp)
  · cases result

end Sys2Proof.Machine
end

section
/-! The laws of the banks, the links and the points of a state, taken apart by what they look at, and that the steps of lanes and round
keep them. -/

namespace Sys2Proof.Machine

-- One proof after another: elaborated side by side, the proofs of the whole text need more memory than the check gives.
set_option Elab.async false

/-! ## Links -/

/-- Link `k` carries the exchange of one bank, or none (R84, R92). -/
inductive State.Carries (s : State) (k : LinkNo) : Prop
  | idle (none : (s.link k).transaction = none) (free : ∀ b x, (s.bank b).exchange = some x → x.link ≠ k)
  | busy (b : BankNo) (x : Exchange) (w : Wait)
    (transaction : (s.link k).transaction = some { bank := b, frame := exchangeFrame (s.bank b).address x, wait := w })
    (flight : (s.bank b).exchange = some x) (own : x.link = k)
    (only : ∀ c y, (s.bank c).exchange = some y → y.link = k → c = b)

/-- Link `k` is idle, with no settle period running and no due times falling together on it, and leaves no ACTIVE bank's work waiting
(R95, log entry 7). -/
def State.ServedOn (s : State) (k : LinkNo) : Prop :=
  (s.link k).transaction = none →
    (∀ e, (s.bank e).activeLink = some k → (s.bank e).state ≠ .warming ∧ (s.bank e).state ≠ .switching) → ¬ s.SurveysTogether k →
    ∀ b, (s.bank b).state = .active → (s.bank b).activeLink = some k → ¬ (s.bank b).Applies

section links
variable {s t : State} {k : LinkNo}

theorem State.Carries.congr (h : s.Carries k) (transaction : (t.link k).transaction = (s.link k).transaction)
    (exchange : ∀ b, (t.bank b).exchange = (s.bank b).exchange) (defn : ∀ b, (t.bank b).defn = (s.bank b).defn) : t.Carries k := by
  have address (b : BankNo) : (t.bank b).address = (s.bank b).address := by rw [BankRec.address, BankRec.address, defn]
  cases h with
  | idle none free => exact .idle (transaction.trans none) (by simpa only [exchange] using free)
  | busy b x w carried flight own only =>
    exact .busy b x w (by rw [transaction, carried, address]) ((exchange b).trans flight) own (by simpa only [exchange] using only)

theorem State.ServedOn.congr (h : s.ServedOn k) (link : t.link k = s.link k)
    (banks : ∀ b, (t.bank b).state = (s.bank b).state ∧ (t.bank b).activeLink = (s.bank b).activeLink ∧
      (t.bank b).surveyDue = (s.bank b).surveyDue ∧ ((t.bank b).Applies ↔ (s.bank b).Applies)) : t.ServedOn k := by
  unfold State.ServedOn State.SurveysTogether State.SurveysAt at *
  simpa only [link, (banks _).1, (banks _).2.1, (banks _).2.2.1, (banks _).2.2.2] using h

end links

/-! ## Banks -/

/-- The laws of `State.BanksOk` but for the service of idle links, which holds between events. -/
structure State.BanksFit (s : State) : Prop where
  configure : s.mode = .configure → ∀ b,
    (s.bank b).state = (if s.inUse b then .down else .unused) ∧ (s.bank b).links = ⟨LinkRec.fresh, LinkRec.fresh⟩ ∧
    (s.bank b).tag = 0#8 ∧ (s.bank b).pendingSet = noSlots ∧ (s.bank b).resync = false ∧ (s.bank b).settle = none ∧
    (s.bank b).surveyDue = none ∧ (s.bank b).exchange = none
  used : s.mode ≠ .configure → ∀ b, (s.bank b).state ≠ .down ∧ ((s.bank b).state = .unused ↔ s.inUse b = false)
  defined : s.mode ≠ .configure → ∀ p, (s.point p).defined = true → (s.bank (bankOf p)).defn.isSome = true
  unique : ∀ b c d e, (s.bank b).defn = some d → (s.bank c).defn = some e → d.address = e.address → b = c
  banks : ∀ b, (s.bank b).Fits
  carries : ∀ k, s.Carries k

section banks
variable {s t : State}

theorem State.banksOk_iff : s.BanksOk ↔ s.BanksFit ∧ ∀ k, s.ServedOn k := by
  constructor
  · intro ok
    refine ⟨⟨ok.configure, ok.used, ok.defined, ok.unique, fun b => ⟨ok.enable b, ok.address b, ok.active b, ok.good b, ok.failed b,
      ok.settle b, ok.resync b, fun x flight => ?_⟩, fun k => ?_⟩, fun k none settled apart b => ok.served k b none settled apart⟩
    · obtain ⟨state, link, -⟩ := ok.exchange b x flight
      exact ⟨state, link⟩
    · have carried (b : BankNo) (x : Exchange) (flight : (s.bank b).exchange = some x) (own : x.link = k) :
          ∃ w, (s.link k).transaction = some { bank := b, frame := exchangeFrame (s.bank b).address x, wait := w } := by
        obtain ⟨-, -, carried⟩ := ok.exchange b x flight
        rwa [own] at carried
      cases transaction : (s.link k).transaction with
      | none =>
        refine .idle transaction fun b x flight own => ?_
        obtain ⟨w, carries⟩ := carried b x flight own
        rw [transaction] at carries
        cases carries
      | some t =>
        obtain ⟨x, flight, own⟩ := ok.transaction k t transaction
        obtain ⟨w, carries⟩ := carried t.bank x flight own
        refine .busy t.bank x w carries flight own fun c y flies mine => ?_
        obtain ⟨v, also⟩ := carried c y flies mine
        exact congrArg Transaction.bank (Option.some.inj (also.symm.trans carries))
  · rintro ⟨fit, served⟩
    refine ⟨fun b => (fit.banks b).enable, fit.configure, fit.used, fit.defined, fun b => (fit.banks b).address, fit.unique,
      fun b => (fit.banks b).active, fun b => (fit.banks b).good, fun b k => (fit.banks b).failed k, fun b => (fit.banks b).settle,
      fun b => (fit.banks b).resync, fun b x flight => ?_, fun k t carried => ?_, fun k b none settled apart =>
        served k none settled apart b⟩
    · obtain ⟨state, link⟩ := (fit.banks b).exchange x flight
      refine ⟨state, link, ?_⟩
      cases fit.carries x.link with
      | idle none free => exact absurd rfl (free b x flight)
      | busy c y w carried flies own only =>
        obtain rfl := only b x flight rfl
        obtain rfl := Option.some.inj (flight.symm.trans flies)
        exact ⟨w, carried⟩
    · cases fit.carries k with
      | idle none => rw [carried] at none; cases none
      | busy c y w also flies own =>
        obtain rfl := Option.some.inj (carried.symm.trans also)
        exact ⟨y, flies, own⟩

theorem State.inUse_congr (points : ∀ p, (t.point p).defn = (s.point p).defn) (banks : ∀ b, (t.bank b).defn = (s.bank b).defn)
    (b : BankNo) : t.inUse b = s.inUse b := by
  rw [Bool.eq_iff_iff, State.inUse_iff, State.inUse_iff]
  simp only [State.Serves, points, banks]

/-- Between START and RESTART a bank with a defined point is defined, and so is each bank that is not UNUSED. -/
theorem State.BanksFit.started (fit : s.BanksFit) (left : s.mode ≠ .configure) {p : PointNo} (defined : (s.point p).defined = true) :
    (s.bank (bankOf p)).state ≠ .unused ∧ (s.bank (bankOf p)).state ≠ .down := by
  obtain ⟨down, unused⟩ := fit.used left (bankOf p)
  refine ⟨fun state => ?_, down⟩
  have used : s.inUse (bankOf p) = true := by
    rw [State.inUse_iff]
    refine ⟨fit.defined left p defined, slotOf p, ?_⟩
    rw [pointAt_bankOf_slotOf]
    exact defined
  rw [unused.mp state] at used
  cases used

theorem BankRec.works_of_started {b : BankRec} (unused : b.state ≠ .unused) (down : b.state ≠ .down) (fine : b.state ≠ .disqualified) :
    b.Works := by
  unfold BankRec.Works
  cases state : b.state with
  | unused => exact absurd state unused
  | down => exact absurd state down
  | disqualified => exact absurd state fine
  | warming => exact .inl rfl
  | active => exact .inr (.inl rfl)
  | switching => exact .inr (.inr rfl)

/-- The laws of the banks look at the mode, at the definitions, and at bank and link records. -/
theorem State.BanksFit.congr (fit : s.BanksFit) (mode : t.mode = s.mode ∨ t.mode ≠ .configure ∧ s.mode ≠ .configure)
    (defn : ∀ p, (t.point p).defn = (s.point p).defn) (banks : t.banks = s.banks) (links : t.links = s.links) : t.BanksFit := by
  have bank (b : BankNo) : t.bank b = s.bank b := congrArg (·[b]) banks
  have link (k : LinkNo) : t.link k = s.link k := congrArg (PerLink.get · k) links
  have inUse (b : BankNo) := State.inUse_congr defn (fun b => by rw [bank b]) b
  have left : t.mode ≠ .configure → s.mode ≠ .configure := by
    obtain same | ⟨-, left⟩ := mode
    · rw [same]; exact id
    · exact fun _ => left
  have conf : t.mode = .configure → s.mode = .configure := by
    obtain same | ⟨left, -⟩ := mode
    · rw [same]; exact id
    · exact fun h => absurd h left
  refine ⟨fun h b => ?_, fun h b => ?_, fun h p => ?_, ?_, fun b => ?_, fun k => ?_⟩
  · rw [bank, inUse]; exact fit.configure (conf h) b
  · rw [bank, inUse]; exact fit.used (left h) b
  · rw [bank, PointRec.defined, defn]; exact fit.defined (left h) p
  · simpa only [bank] using fit.unique
  · rw [bank]; exact fit.banks b
  · exact (fit.carries k).congr (by rw [link]) (fun b => by rw [bank]) fun b => by rw [bank]

end banks

/-! ## Points -/

/-- The points of a bank, slot by slot. -/
def State.row (s : State) (b : BankNo) : SlotNo → PointRec := fun i => s.point (pointAt b i)

/-- The laws of the points: each stands in its place, and in SAFE each target is the safe value (R8 to R15, R136). -/
structure State.PointsFit (s : State) : Prop where
  rows : ∀ b, RowFits (s.bank b) (s.row b)
  safe : s.mode = .safe → ∀ p d, (s.point p).defn = some d → (s.point p).target = some d.safe

section points
variable {s t : State}

theorem State.row_bankOf (s : State) (p : PointNo) : s.row (bankOf p) (slotOf p) = s.point p := by
  rw [State.row, pointAt_bankOf_slotOf]

theorem State.PointsFit.place (fit : s.PointsFit) (p : PointNo) : (s.point p).Placed (s.bank (bankOf p)) (slotOf p) := by
  have placed := (fit.rows (bankOf p)).placed (slotOf p)
  rwa [State.row_bankOf] at placed

theorem PointRec.Placed.pointOk {b : BankRec} {i : SlotNo} {r : PointRec} (h : r.Placed b i) :
    (∀ d, r.defn = some d → d.Ok) ∧ (r.defn = none → r = .blank) ∧
      (∀ d v, r.defn = some d → r.target = some v → d.min ≤ v ∧ v ≤ d.max) ∧
      (∀ d v, r.defn = some d → r.applied = some v → d.min ≤ v ∧ v ≤ d.max) := by
  cases h with
  | blank eq => rw [eq]; exact ⟨nofun, fun _ => rfl, nofun, nofun⟩
  | inert d ok eq =>
    rw [eq]
    exact ⟨fun e he => Option.some.inj he ▸ ok, nofun, nofun, nofun⟩
  | settled valid | pending valid | loading valid | off valid =>
    exact ⟨valid.definition, fun none => absurd valid.defined (by rw [none]; decide), valid.target, valid.applied⟩

/-- A point's place says what its state says. -/
theorem PointRec.Placed.stateOk {b : BankRec} {i : SlotNo} {r : PointRec} (h : r.Placed b i) :
    (r.state = .settled → r.applied = r.target) ∧ (r.state = .pending → r.applied ≠ r.target) ∧
      (r.state = .pending → b.pendingSet[i] = true ∨ b.resync = true ∨ b.state = .warming ∨ b.state = .switching) ∧
      (b.pendingSet[i] = true → r.state = .pending ∨ r.state = .loading) ∧
      (r.state = .off ↔ r.defined = true ∧ b.state = .disqualified) ∧ (r.state = .off → r.applied = none) ∧
      (r.state = .loading ↔ b.Loads i) := by
  have outside (out : b.pendingSet[i] = false) : b.pendingSet[i] = true → r.state = .pending ∨ r.state = .loading := by
    rw [out]; nofun
  have not_off (works : b.Works) (other : r.state ≠ .off) : r.state = .off ↔ r.defined = true ∧ b.state = .disqualified :=
    iff_of_false other fun h => works.ne_disqualified h.2
  cases h with
  | blank eq out free =>
    have state : r.state = .undefined := by rw [eq]; rfl
    have undefined : r.defined = false := by rw [eq]; rfl
    simp [state, undefined, out, free]
  | inert d ok eq out free idle =>
    have state : r.state = .inert := by rw [eq]; rfl
    have sound : b.state ≠ .disqualified := by obtain h | h := idle <;> rw [h] <;> decide
    simp [state, out, free, sound]
  | settled valid state applied out free works =>
    exact ⟨fun _ => applied, by rw [state]; nofun, by rw [state]; nofun, outside out, not_off works (by rw [state]; decide),
      by rw [state]; nofun, iff_of_false (by rw [state]; decide) free⟩
  | pending valid state applied work free works =>
    exact ⟨by rw [state]; nofun, fun _ => applied, fun _ => work, fun _ => .inl state, not_off works (by rw [state]; decide),
      by rw [state]; nofun, iff_of_false (by rw [state]; decide) free⟩
  | loading valid state loads works =>
    exact ⟨by rw [state]; nofun, by rw [state]; nofun, by rw [state]; nofun, fun _ => .inr state,
      not_off works (by rw [state]; decide), by rw [state]; nofun, iff_of_true state loads⟩
  | off valid state applied out free disqualified =>
    exact ⟨by rw [state]; nofun, by rw [state]; nofun, by rw [state]; nofun, outside out,
      iff_of_true state ⟨valid.defined, disqualified⟩, fun _ => applied, iff_of_false (by rw [state]; decide) free⟩

/-- A point that keeps the laws of the points stands in its place. -/
theorem State.PointsOk.place (ok : s.PointsOk) (banks : s.BanksFit) (p : PointNo) :
    (s.point p).Placed (s.bank (bankOf p)) (slotOf p) := by
  have out (other : (s.point p).state ≠ .pending ∧ (s.point p).state ≠ .loading) : (s.bank (bankOf p)).pendingSet[slotOf p] = false :=
    Bool.eq_false_iff.mpr fun member => (ok.members p member).elim other.1 other.2
  have free (other : (s.point p).state ≠ .loading) : ¬ (s.bank (bankOf p)).Loads (slotOf p) := fun loads =>
    other ((ok.loading p).mpr loads)
  cases defn : (s.point p).defn with
  | none =>
    have blank := ok.blank p defn
    have state : (s.point p).state = .undefined := by rw [blank]; rfl
    exact .blank blank (out (by rw [state]; decide)) (free (by rw [state]; decide))
  | some d =>
    have defined : (s.point p).defined = true := by rw [PointRec.defined, defn]; rfl
    by_cases conf : s.mode = .configure
    · have inert := ok.configure conf p d defn
      have state : (s.point p).state = .inert := by rw [inert]; rfl
      refine .inert d (ok.definition p d defn) inert (out (by rw [state]; decide)) (free (by rw [state]; decide)) ?_
      rw [(banks.configure conf _).1]
      split
      · exact .inr rfl
      · exact .inl rfl
    · obtain ⟨aimed, undefined, inert⟩ := ok.running conf p defined
      have valid : (s.point p).Valid := ⟨ok.definition p, defined, aimed, ok.target p, ok.applied p, ok.splits p⟩
      obtain ⟨unused, down⟩ := banks.started conf defined
      have works (other : (s.point p).state ≠ .off) : (s.bank (bankOf p)).Works :=
        BankRec.works_of_started unused down fun disqualified => other ((ok.off p).mpr ⟨defined, disqualified⟩)
      cases state : (s.point p).state with
      | undefined => exact absurd state undefined
      | inert => exact absurd state inert
      | settled =>
        exact .settled valid state (ok.settled p state) (out (by rw [state]; decide)) (free (by rw [state]; decide))
          (works (by rw [state]; decide))
      | pending => exact .pending valid state (ok.pending p state) (ok.work p state) (free (by rw [state]; decide)) (works (by rw [state]; decide))
      | loading => exact .loading valid state ((ok.loading p).mp state) (works (by rw [state]; decide))
      | off =>
        exact .off valid state (ok.offApplied p state) (out (by rw [state]; decide)) (free (by rw [state]; decide))
          ((ok.off p).mp state).2

/-- The laws of the points, by the place of each. -/
theorem State.pointsOk_iff (banks : s.BanksFit) : s.PointsOk ↔ s.PointsFit := by
  constructor
  · intro ok
    refine ⟨fun b => ⟨fun i => ?_, ok.loaded b⟩, ok.safe⟩
    have placed := ok.place banks (pointAt b i)
    rwa [bankOf_pointAt, slotOf_pointAt] at placed
  · intro fit
    have running (left : s.mode ≠ .configure) (p : PointNo) (defined : (s.point p).defined = true) :
        (s.point p).target.isSome = true ∧ (s.point p).state ≠ .undefined ∧ (s.point p).state ≠ .inert := by
      obtain ⟨unused, down⟩ := banks.started left defined
      cases fit.place p with
      | blank eq => rw [eq] at defined; cases defined
      | inert _ _ _ _ _ idle => exact absurd idle (by simp [unused, down])
      | settled valid state | pending valid state | loading valid state | off valid state =>
        exact ⟨valid.aimed, by rw [state]; decide, by rw [state]; decide⟩
    have configured (conf : s.mode = .configure) (p : PointNo) (d : PointDef) (defn : (s.point p).defn = some d) :
        s.point p = PointRec.inert d := by
      have idle : (s.bank (bankOf p)).state = .unused ∨ (s.bank (bankOf p)).state = .down := by
        rw [(banks.configure conf _).1]
        split
        · exact .inr rfl
        · exact .inl rfl
      cases fit.place p with
      | blank eq => rw [eq] at defn; cases defn
      | inert e _ eq =>
        rw [eq] at defn
        obtain rfl := Option.some.inj defn
        exact eq
      | settled _ _ _ _ _ works | pending _ _ _ _ _ works | loading _ _ _ works => exact absurd idle works.not_idle
      | off _ _ _ _ _ disqualified => rw [disqualified] at idle; simp at idle
    have point (p : PointNo) := (fit.place p).pointOk
    have state (p : PointNo) := (fit.place p).stateOk
    exact ⟨fun p => (point p).1, fun p => (point p).2.1, configured, running, fun p => (point p).2.2.1, fun p => (point p).2.2.2,
      fun p => (fit.place p).splits_le, fit.safe, fun p => (state p).1, fun p => (state p).2.1, fun p => (state p).2.2.1,
      fun p => (state p).2.2.2.1, fun p => (state p).2.2.2.2.1, fun p => (state p).2.2.2.2.2.1, fun p => (state p).2.2.2.2.2.2,
      fun b => (fit.rows b).loaded⟩

/-- The laws of the points look at points, banks and whether the mode is SAFE. -/
theorem State.PointsFit.congr (fit : s.PointsFit) (mode : t.mode = .safe → s.mode = .safe) (points : t.points = s.points)
    (banks : t.banks = s.banks) : t.PointsFit := by
  have point (p : PointNo) : t.point p = s.point p := congrArg (·[p]) points
  have bank (b : BankNo) : t.bank b = s.bank b := congrArg (·[b]) banks
  have row (b : BankNo) : t.row b = s.row b := funext fun i => point (pointAt b i)
  exact ⟨fun b => by rw [bank, row]; exact fit.rows b, fun safe p d => by rw [point]; exact fit.safe (mode safe) p d⟩

end points

end Sys2Proof.Machine
end

section
/-! The steps of lanes and round keep the laws of the banks and of the points: only the close of a round and SAFE entry write targets. -/

namespace Sys2Proof.Machine

-- One proof after another: elaborated side by side, the proofs of the whole text need more memory than the check gives.
set_option Elab.async false

section rewritten
variable {s t : State}

theorem BankRec.Fits.rewritten {b c : BankRec} (fits : b.Fits) (h : SameButPending b c) : c.Fits := by
  rw [h.eq]
  exact ⟨fits.enable, fits.address, fits.active, fits.good, fits.failed, fits.settle, fits.resync, fits.exchange⟩

/-- Outside CONFIGURE the pending sets are none of the banks' laws' business. -/
theorem State.BanksFit.rewritten (fit : s.BanksFit) (was : s.mode ≠ .configure) (is : t.mode ≠ .configure)
    (defn : ∀ p, (t.point p).defn = (s.point p).defn) (banks : ∀ b, SameButPending (s.bank b) (t.bank b)) (links : t.links = s.links) :
    t.BanksFit := by
  have link (k : LinkNo) : t.link k = s.link k := congrArg (PerLink.get · k) links
  have bank_defn (b : BankNo) : (t.bank b).defn = (s.bank b).defn := by rw [(banks b).eq]
  have inUse (b : BankNo) := State.inUse_congr defn bank_defn b
  refine ⟨fun conf => absurd conf is, fun _ b => ?_, fun _ p => ?_, ?_, fun b => (fit.banks b).rewritten (banks b), fun k => ?_⟩
  · rw [(banks b).state, inUse]; exact fit.used was b
  · rw [bank_defn, PointRec.defined, defn]; exact fit.defined was p
  · simpa only [bank_defn] using fit.unique
  · exact (fit.carries k).congr (by rw [link]) (fun b => (banks b).exchange) bank_defn

theorem State.slotPending_pointAt (s : State) (b : BankNo) (i : SlotNo) : s.slotPending (pointAt b i) = (s.bank b).pendingSet[i] := by
  simp only [State.slotPending, bankOf_pointAt, slotOf_pointAt]

/-- Targets written point by point leave each row in its place where each point's write does. -/
theorem State.PointsFit.rewritten (fit : s.PointsFit) (banks : ∀ b, SameButPending (s.bank b) (t.bank b))
    (f : PointNo → PointRec × Bool) (point : ∀ p, (t.point p, t.slotPending p) = f p)
    (defn : ∀ p, (t.point p).defn = (s.point p).defn)
    (place : ∀ p, (t.bank (bankOf p)).pendingSet[slotOf p] = (f p).2 → (f p).1.Placed (t.bank (bankOf p)) (slotOf p))
    (safe : t.mode = .safe → ∀ p d, (t.point p).defn = some d → (t.point p).target = some d.safe) : t.PointsFit := by
  refine ⟨fun b => ⟨fun i => ?_, fun x flight => ?_⟩, safe⟩
  · obtain ⟨record, member⟩ := Prod.ext_iff.mp (point (pointAt b i))
    have placed := place (pointAt b i) member
    rw [bankOf_pointAt, slotOf_pointAt] at placed
    rw [State.row, show t.point (pointAt b i) = _ from record]
    exact placed
  · rw [(banks b).exchange] at flight
    exact ((fit.rows b).loaded x flight).of_defn rfl id fun i => defn _

end rewritten

/-! ## The close of a round -/

section closes
variable {s : State} {c : Collecting} {cause : CloseCause}

/-- The result of a close lies in the point's range (R10, R31). -/
theorem State.voteAt_bounds {p : PointNo} {d : PointDef} {old v : Nat} (round : s.RoundFits) (collects : s.collecting = some c)
    (defn : (s.point p).defn = some d) (aimed : d.min ≤ old ∧ old ≤ d.max) (result : (s.voteAt c p d.tol old).target = some v) :
    d.min ≤ v ∧ v ≤ d.max := by
  refine votePoint_bounds (fun o mem => ?_) result
  obtain ⟨l, -, rfl⟩ := List.mem_map.mp mem
  dsimp only
  cases stage : c.slot l p with
  | none => exact aimed
  | some w =>
    obtain ⟨e, he, range⟩ := round.staged c l p w collects stage
    obtain rfl := Option.some.inj (defn.symm.trans he)
    exact range

theorem State.voted_place (points : s.PointsFit) (round : s.RoundFits) (collects : s.collecting = some c) {b : BankRec} (p : PointNo)
    (same : SameButPending (s.bank (bankOf p)) b) (member : b.pendingSet[slotOf p] = (s.voted c p).2) :
    (s.voted c p).1.Placed b (slotOf p) := by
  have placed := points.place p
  cases defn : (s.point p).defn with
  | none =>
    simp only [State.voted, defn] at member ⊢
    exact placed.same same member
  | some d =>
    cases target : (s.point p).target with
    | none =>
      simp only [State.voted, defn, target] at member ⊢
      exact placed.same same member
    | some old =>
      rw [State.voted_eq defn target] at member ⊢
      refine placed.take same (by rw [target]; rfl) (fun e v he result => ?_) member
      obtain rfl := Option.some.inj (defn.symm.trans he)
      exact State.voteAt_bounds round collects defn (placed.pointOk.2.2.1 d old defn target) result

theorem State.closing_defn (s : State) (c : Collecting) (cause : CloseCause) (p : PointNo) :
    ((s.closing c cause).point p).defn = (s.point p).defn := by
  obtain ⟨record, -⟩ := Prod.ext_iff.mp (s.closing_point c cause p)
  rw [show (s.closing c cause).point p = _ from record, State.voted]
  split
  · exact takeResult_defn ..
  · rfl

theorem State.closing_same (s : State) (c : Collecting) (cause : CloseCause) (b : BankNo) :
    SameButPending (s.bank b) ((s.closing c cause).bank b) := s.closing_bank c cause b

theorem State.BanksFit.closes (fit : s.BanksFit) (run : s.mode = .run) : (s.closing c cause).BanksFit :=
  fit.rewritten (by rw [run]; decide) (by rw [State.closing_mode, run]; decide) (s.closing_defn c cause) (s.closing_same c cause)
    (s.closing_links c cause)

theorem State.PointsFit.closes (points : s.PointsFit) (round : s.RoundFits) (collects : s.collecting = some c) (run : s.mode = .run) :
    (s.closing c cause).PointsFit := by
  refine points.rewritten (s.closing_same c cause) (s.voted c) (s.closing_point c cause) (s.closing_defn c cause)
    (fun p member => State.voted_place points round collects p (s.closing_same c cause _) member) fun safe => ?_
  rw [State.closing_mode, run] at safe
  cases safe

end closes

/-! ## SAFE entry -/

section enterSafe
variable {s : State} (l : Lane) (why : Code)

theorem State.enterSafe_defn (s : State) (p : PointNo) : ((s.enterSafe l why).point p).defn = (s.point p).defn :=
  (Moves.enterSafe s l why).points p

theorem State.enterSafe_same (s : State) (b : BankNo) : SameButPending (s.bank b) ((s.enterSafe l why).bank b) :=
  s.enterSafe_bank l why b

theorem State.BanksFit.entersSafe (fit : s.BanksFit) (run : s.mode = .run) : (s.enterSafe l why).BanksFit :=
  fit.rewritten (by rw [run]; decide) (by rw [State.enterSafe_mode]; decide) (s.enterSafe_defn l why) (s.enterSafe_same l why)
    (s.enterSafe_links l why)

theorem State.PointsFit.entersSafe (points : s.PointsFit) (banks : s.BanksFit) (run : s.mode = .run) : (s.enterSafe l why).PointsFit := by
  refine points.rewritten (s.enterSafe_same l why) _ (s.enterSafe_point l why) (s.enterSafe_defn l why) (fun p member => ?_)
    fun _ p d defn => ?_
  · have placed := points.place p
    exact placed.safeWritten (s.enterSafe_same l why _) placed.pointOk.1 member
  · rw [State.enterSafe_defn] at defn
    have defined : (s.point p).defined = true := by rw [PointRec.defined, defn]; rfl
    obtain ⟨unused, down⟩ := banks.started (by rw [run]; decide) defined
    obtain ⟨record, -⟩ := Prod.ext_iff.mp (s.enterSafe_point l why p)
    rw [show (s.enterSafe l why).point p = _ from record]
    have live : (s.point p).state ≠ .inert ∧ (s.point p).state ≠ .undefined := by
      cases points.place p with
      | blank eq => rw [eq] at defn; cases defn
      | inert _ _ _ _ _ idle => exact absurd idle (by simp [unused, down])
      | settled _ state | pending _ state | loading _ state | off _ state => rw [state]; decide
    exact safeWritten_target defn live.1 live.2

end enterSafe

/-! ## Every step -/

section acts
variable {s t : State}

theorem Act.banksFit (h : Act s t) (roles : s.RolesFit) (fit : s.BanksFit) : t.BanksFit := by
  cases h with
  | apart | idles | releases | opens | lane | leaves | stages | seals => exact fit.congr (.inl rfl) (fun _ => rfl) rfl rfl
  | closes c cause collects => exact fit.closes (roles.collecting.mp (by rw [collects]; rfl))
  | entersSafe l why run => exact fit.entersSafe l why run

theorem Act.pointsFit (h : Act s t) (roles : s.RolesFit) (round : s.RoundFits) (banks : s.BanksFit) (points : s.PointsFit) : t.PointsFit := by
  cases h with
  | apart | idles | releases | opens | lane | leaves | stages | seals => exact points.congr id rfl rfl
  | closes c cause collects => exact points.closes round collects (roles.collecting.mp (by rw [collects]; rfl))
  | entersSafe l why run => exact points.entersSafe l why banks run

theorem Acts.banksFit (h : Acts s t) (roles : s.RolesFit) (fit : s.BanksFit) : t.RolesFit ∧ t.BanksFit :=
  h.kept (P := fun u => u.RolesFit ∧ u.BanksFit) (fun _ _ step ⟨roles, fit⟩ => ⟨step.rolesFit roles, step.banksFit roles fit⟩) ⟨roles, fit⟩

theorem Acts.pointsFit (h : Acts s t) (roles : s.RolesFit) (round : s.RoundFits) (banks : s.BanksFit) (points : s.PointsFit) : t.PointsFit :=
  (h.kept (P := fun u => u.RolesFit ∧ u.RoundFits ∧ u.BanksFit ∧ u.PointsFit)
    (fun _ _ step ⟨roles, round, banks, points⟩ =>
      ⟨step.rolesFit roles, step.roundFits roles round, step.banksFit roles banks, step.pointsFit roles round banks points⟩)
    ⟨roles, round, banks, points⟩).2.2.2

end acts

end Sys2Proof.Machine
end

section
/-! The moves of the Apply Engine on the whole state: what each leaves of the laws of the banks, the links and the points. -/

namespace Sys2Proof.Machine

-- One proof after another: elaborated side by side, the proofs of the whole text need more memory than the check gives.
set_option Elab.async false

/-! ## One move -/

/-- A move on link `k` has led from `s` to `t`: banks with their points have moved on this link or not at all, the other link is as it
was, and the link carries what it should. -/
structure Worked (k : LinkNo) (s t : State) : Prop where
  part : EnginePart s t
  link : t.link k.other = s.link k.other
  banks : ∀ b, t.bank b = s.bank b ∧ t.row b = s.row b ∨ BankStep s.settings k (s.bank b) (s.row b) (t.bank b) (t.row b)
  carries : s.Carries k → t.Carries k

/-- Moves on link `k` have led from `s` to `t`. -/
def Works (k : LinkNo) : State → State → Prop := Relation.ReflTransGen (Worked k)

section worked
variable {k : LinkNo} {s t u : State}

theorem Works.refl (k : LinkNo) (s : State) : Works k s s := Relation.ReflTransGen.refl
theorem Worked.works (h : Worked k s t) : Works k s t := .single h
theorem Works.trans (h : Works k s t) (g : Works k t u) : Works k s u := Relation.ReflTransGen.trans h g

theorem Works.part (h : Works k s t) : EnginePart s t := by
  induction h with
  | refl => exact .refl s
  | tail _ step ih => exact ih.trans step.part

/-- What every move keeps. -/
theorem Works.kept {P : State → Prop} (h : Works k s t) (step : ∀ u v, Worked k u v → P u → P v) (hs : P s) : P t := by
  induction h with
  | refl => exact hs
  | tail _ moved ih => exact step _ _ moved ih

theorem State.point_eq_row (s : State) (p : PointNo) : s.point p = s.row (bankOf p) (slotOf p) := (s.row_bankOf p).symm

theorem LinkNo.eq_or_other (j k : LinkNo) : j = k ∨ j = k.other := by cases j <;> cases k <;> simp [LinkNo.other]

section move
variable (h : Worked k s t)
include h

theorem Worked.point_defn (p : PointNo) : (t.point p).defn = (s.point p).defn := by
  rw [State.point_eq_row, State.point_eq_row]
  obtain ⟨-, row⟩ | step := h.banks (bankOf p)
  · rw [row]
  · exact step.points_defn _

theorem Worked.point_target (p : PointNo) : (t.point p).target = (s.point p).target := by
  rw [State.point_eq_row, State.point_eq_row]
  obtain ⟨-, row⟩ | step := h.banks (bankOf p)
  · rw [row]
  · exact step.points_target _

theorem Worked.bank_defn (b : BankNo) : (t.bank b).defn = (s.bank b).defn := by
  obtain ⟨bank, -⟩ | step := h.banks b
  · rw [bank]
  · exact step.defn

/-- What the other link carries is not touched. -/
theorem Worked.carries_other (fits : ∀ b, (s.bank b).Fits) (carries : s.Carries k.other) : t.Carries k.other := by
  have away (b : BankNo) (x : Exchange) (other : x.link = k.other) : (t.bank b).exchange = some x ↔ (s.bank b).exchange = some x := by
    obtain ⟨bank, -⟩ | step := h.banks b
    · rw [bank]
    · have not_mine : x.link ≠ k := by rw [other]; exact k.other_ne
      refine iff_of_false (fun flight => ?_) fun flight => ?_
      · obtain ⟨-, active⟩ := (step.fits (fits b)).exchange x flight
        obtain link | ⟨-, switching⟩ | link := step.leaves (fits b)
        · exact not_mine (Option.some.inj (active.symm.trans link))
        · have state := ((step.fits (fits b)).exchange x flight).1
          rw [switching] at state
          cases state
        · rw [link] at active
          cases active
      · obtain ⟨-, active⟩ := (fits b).exchange x flight
        exact not_mine (Option.some.inj (active.symm.trans (step.found (fits b)).1))
  cases carries with
  | idle none free =>
    exact .idle (by rw [h.link, none]) fun b x flight own => free b x ((away b x own).mp flight) own
  | busy b x w carried flight own only =>
    refine .busy b x w ?_ ((away b x own).mpr flight) own fun c y flies mine => only c y ((away c y mine).mp flies) mine
    rw [h.link, carried, BankRec.address, BankRec.address, h.bank_defn]

theorem Worked.banksFit (fit : s.BanksFit) : t.BanksFit := by
  have inUse (b : BankNo) := State.inUse_congr h.point_defn h.bank_defn b
  refine ⟨fun conf b => ?_, fun left b => ?_, fun left p => ?_, ?_, fun b => ?_, fun j => ?_⟩
  · rw [h.part.mode] at conf
    have configured := fit.configure conf b
    obtain ⟨bank, -⟩ | step := h.banks b
    · rwa [bank, inUse]
    · refine absurd ?_ (step.found (fit.banks b)).2.not_idle
      rw [configured.1]
      split
      · exact .inr rfl
      · exact .inl rfl
  · rw [h.part.mode] at left
    obtain ⟨down, unused⟩ := fit.used left b
    rw [inUse]
    obtain ⟨bank, -⟩ | step := h.banks b
    · rw [bank]
      exact ⟨down, unused⟩
    · have was := (step.found (fit.banks b)).2.not_idle
      have is : ¬ ((t.bank b).state = .unused ∨ (t.bank b).state = .down) := by
        obtain works | disqualified := step.state (fit.banks b)
        · exact works.not_idle
        · rw [disqualified]; simp
      simp only [not_or] at was is
      exact ⟨is.2, iff_of_false is.1 (unused.not.mp was.1)⟩
  · rw [h.part.mode] at left
    rw [h.bank_defn, PointRec.defined, h.point_defn]
    exact fit.defined left p
  · simpa only [h.bank_defn] using fit.unique
  · obtain ⟨bank, -⟩ | step := h.banks b
    · rw [bank]
      exact fit.banks b
    · exact step.fits (fit.banks b)
  · obtain rfl | rfl := LinkNo.eq_or_other j k
    · exact h.carries (fit.carries j)
    · exact h.carries_other fit.banks (fit.carries _)

theorem Worked.pointsFit (banks : s.BanksFit) (points : s.PointsFit) : t.PointsFit := by
  refine ⟨fun b => ?_, fun safe p d => ?_⟩
  · obtain ⟨bank, row⟩ | step := h.banks b
    · rw [bank, row]
      exact points.rows b
    · exact step.rowFits (banks.banks b) (points.rows b)
  · rw [h.part.mode] at safe
    rw [h.point_defn, h.point_target]
    exact points.safe safe p d

theorem Worked.countsOk (ok : s.CountsOk) : t.CountsOk := by
  rw [State.countsOk_iff] at ok ⊢
  obtain ⟨range, lanes, links⟩ := ok
  have lane (l : Lane) : t.lane l = s.lane l := congrArg (PerLane.get · l) h.part.lanes
  refine ⟨by rw [h.part.settings]; exact range, fun l => by rw [lane, h.part.settings]; exact lanes l, fun b => ?_⟩
  rw [h.part.settings]
  obtain ⟨bank, -⟩ | step := h.banks b
  · rw [bank]
    exact links b
  · exact step.counts range (links b)

/-- The other link's service is not touched, unless a bank has come over to it: that bank is in its settle period. -/
theorem Worked.served_other (fits : ∀ b, (s.bank b).Fits) (served : s.ServedOn k.other) : t.ServedOn k.other := by
  intro idle settled apart b state active
  have same (c : BankNo) (here : (t.bank c).activeLink = some k.other) : t.bank c = s.bank c := by
    obtain ⟨bank, -⟩ | step := h.banks c
    · exact bank
    · obtain link | ⟨-, switching⟩ | link := step.leaves (fits c)
      · exact absurd (Option.some.inj (here.symm.trans link)) k.other_ne
      · exact absurd switching (settled c here).2
      · rw [link] at here
        cases here
  have back (c : BankNo) (here : (s.bank c).activeLink = some k.other) : t.bank c = s.bank c := by
    obtain ⟨bank, -⟩ | step := h.banks c
    · exact bank
    · exact absurd (Option.some.inj (here.symm.trans (step.found (fits c)).1)) k.other_ne
  have surveys (c : BankNo) (d : Time) : s.SurveysAt k.other c d → t.SurveysAt k.other c d := by
    rintro ⟨active, link, due⟩
    have bank := back c link
    exact ⟨by rw [bank]; exact active, by rw [bank]; exact link, by rw [bank]; exact due⟩
  have here := same b active
  rw [here] at state active ⊢
  refine served (by rw [← h.link]; exact idle) (fun e here => ?_) (fun together => apart ?_) b state active
  · have bank := back e here
    rw [← bank]
    exact settled e (by rw [bank]; exact here)
  · obtain ⟨e, d, survey, other⟩ := together
    exact ⟨e, d, surveys e d survey, other.imp (fun h' => by rw [h.link]; exact h') fun ⟨c, ne, also⟩ => ⟨c, ne, surveys c d also⟩⟩

end move

theorem Works.banksFit (h : Works k s t) (fit : s.BanksFit) : t.BanksFit := h.kept (fun _ _ step => step.banksFit) fit

theorem Works.pointsFit (h : Works k s t) (banks : s.BanksFit) (points : s.PointsFit) : t.PointsFit :=
  (h.kept (P := fun u => u.BanksFit ∧ u.PointsFit) (fun _ _ step fit => ⟨step.banksFit fit.1, step.pointsFit fit.1 fit.2⟩)
    ⟨banks, points⟩).2

theorem Works.countsOk (h : Works k s t) (ok : s.CountsOk) : t.CountsOk := h.kept (fun _ _ step => step.countsOk) ok

theorem Works.served_other (h : Works k s t) (fit : s.BanksFit) (served : s.ServedOn k.other) : t.ServedOn k.other :=
  (h.kept (P := fun u => u.BanksFit ∧ u.ServedOn k.other)
    (fun _ _ step fit => ⟨step.banksFit fit.1, step.served_other fit.1.banks fit.2⟩) ⟨fit, served⟩).2

end worked

/-! ## The choice of a link -/

section serve
variable {k : LinkNo} {s : State}

/-- A busy link leaves nothing to serve. -/
theorem State.ServedOn.of_busy (busy : (s.link k).transaction ≠ none) : s.ServedOn k := fun idle => absurd idle busy

theorem Worked.startExchange {b : BankNo} (chosen : s.Chooses k b) : Worked k s (s.startExchange k b) := by
  obtain ⟨e, starts⟩ := s.startExchange_starts k b
  generalize s.startExchange k b = t at starts ⊢
  obtain ⟨state, link, free, -⟩ := State.candidate_iff.mp chosen.candidate
  obtain ⟨idle, -, -⟩ := chosen
  obtain ⟨own, -, apply, survey⟩ := starts.opens
  refine ⟨starts.rest.enginePart, by rw [starts.link, if_neg k.other_ne], fun c => ?_, fun carries => ?_⟩
  · by_cases same : c = b
    · subst same
      refine .inr ((BankStep.starts e state link free own (fun applies => ?_) fun idles => ?_).of_eq ?_ fun i => ?_)
      · obtain ⟨phase, -, loaded⟩ := apply applies
        exact ⟨phase, loaded⟩
      · obtain ⟨phase, -, loaded⟩ := survey idles
        exact ⟨phase, loaded⟩
      · rw [starts.bank, if_pos rfl]
      · simp only [State.row, starts.point, bankOf_pointAt, slotOf_pointAt, true_and]
    · refine .inl ⟨by rw [starts.bank, if_neg same], funext fun i => ?_⟩
      rw [State.row, State.row, starts.point, if_neg (by rw [bankOf_pointAt]; exact fun h => same h.1)]
  · cases carries with
    | busy _ _ _ carried => rw [idle] at carried; cases carried
    | idle _ none_ =>
      refine .busy b e .sending ?_ ?_ own fun c y flight mine => ?_
      · rw [starts.link, if_pos rfl, exchangeFrame_eq, starts.bank, if_pos rfl, BankRec.address]
      · rw [starts.bank, if_pos rfl]
      · rw [starts.bank] at flight
        split at flight
        next same => exact same
        · exact absurd mine (none_ c y flight)

theorem Works.serveLink (k : LinkNo) (s : State) : Works k s (s.serveLink k) := by
  obtain same | ⟨b, idle, free, choice, starts⟩ := s.serveLink_cases k
  · rw [same]
    exact .refl k s
  · rw [starts]
    exact (Worked.startExchange ⟨idle, free, choice⟩).works

/-- A link that has made its choice is busy or has no ACTIVE bank's work left (R95). -/
theorem State.ServedOn.serveLink (fits : ∀ b, (s.bank b).Fits) (carries : s.Carries k) : (s.serveLink k).ServedOn k := by
  obtain same | ⟨b, idle, free, choice, starts⟩ := s.serveLink_cases k
  · rw [same]
    intro idle settled apart b state active applies
    have free : s.heldBack k = false := by
      refine Bool.eq_false_iff.mpr fun held => ?_
      obtain ⟨c, d, waits, together⟩ := (s.heldBack_iff k).mp held
      have unsettled (e : BankNo) (m : Time) : ¬ s.SettlesAt k e m := fun ⟨period, here, _⟩ =>
        period.elim (settled e here).1 (settled e here).2
      obtain ⟨settles, -⟩ | ⟨surveys, -⟩ := waits
      · exact unsettled c d settles
      · exact apart ⟨c, d, surveys, together.imp id fun ⟨e, ne, also⟩ => ⟨e, ne, also.resolve_left (unsettled e d)⟩⟩
    have none_ : s.choice k = none := by
      cases choice : s.choice k with
      | none => rfl
      | some c =>
        obtain ⟨e, starts⟩ := s.startExchange_starts k c
        have link := starts.link k
        rw [← s.serveLink_chosen k c idle free choice, same, if_pos rfl, LinkCtl.ext_iff] at link
        exact nomatch idle.symm.trans link.2.1
    have unchosen := (List.find?_eq_none.mp none_) b (mem_rotation _ b)
    refine unchosen (State.candidate_iff.mpr ⟨state, active, ?_, ((s.bank b).hasWork_iff s.clock).mpr ?_⟩)
    · cases flight : (s.bank b).exchange with
      | none => rfl
      | some x =>
        cases carries with
        | idle _ none_ => exact absurd (Option.some.inj (((fits b).exchange x flight).2.symm.trans active)) (none_ b x flight)
        | busy _ _ _ carried => rw [idle] at carried; cases carried
    · exact applies.elim .inl fun set => .inr (.inl set)
  · rw [starts]
    obtain ⟨e, begun⟩ := s.startExchange_starts k b
    exact .of_busy (by rw [begun.link, if_pos rfl]; nofun)

end serve

end Sys2Proof.Machine
end

section
/-! The deeds of the Apply Engine: each is made of moves on one link, which is then busy or has made its choice. -/

namespace Sys2Proof.Machine

-- One proof after another: elaborated side by side, the proofs of the whole text need more memory than the check gives.
set_option Elab.async false

/-! ## Moves on a bank in flight -/

section moves
variable {k : LinkNo} {b : BankNo} {s : State} {x : Exchange}

/-- A bank changes alone, and with it perhaps what its link carries. -/
theorem Worked.of_bank {t : State} (part : EnginePart s t) (link : t.link k.other = s.link k.other)
    (other : ∀ c, c ≠ b → t.bank c = s.bank c) (points : ∀ p, bankOf p ≠ b → t.point p = s.point p)
    (step : BankStep s.settings k (s.bank b) (s.row b) (t.bank b) (t.row b)) (carries : s.Carries k → t.Carries k) : Worked k s t := by
  refine ⟨part, link, fun c => ?_, carries⟩
  by_cases same : c = b
  · rw [same]
    exact .inr step
  · exact .inl ⟨other c same, funext fun i => points _ (by rw [bankOf_pointAt]; exact same)⟩

theorem State.setBank_row (s : State) (b c : BankNo) (r : BankRec) : (s.setBank b r).row c = s.row c := rfl
theorem State.setLink_row (s : State) (k : LinkNo) (r : LinkCtl) (c : BankNo) : (s.setLink k r).row c = s.row c := rfl

/-- Nothing of the link changes but what it waits for and whether it discards a frame. -/
theorem Worked.waits (transaction : Option Transaction) (discard : Bool)
    (same : transaction.map (fun t => (t.bank, t.frame)) = (s.link k).transaction.map fun t => (t.bank, t.frame)) :
    Worked k s (s.setLink k { s.link k with transaction, discardNext := discard }) := by
  refine ⟨.setLink .., by rw [State.setLink_link, if_neg k.other_ne], fun c => .inl ⟨rfl, rfl⟩, fun carries => ?_⟩
  have link : ((s.setLink k { s.link k with transaction, discardNext := discard }).link k).transaction = transaction := by
    rw [State.setLink_link, if_pos rfl]
  cases carries with
  | idle none free =>
    rw [none] at same
    exact .idle (by rw [link]; simpa using same) free
  | busy c y w carried flight own only =>
    rw [carried] at same
    obtain ⟨⟨e, f, v⟩, rfl, eq⟩ := Option.map_eq_some_iff.mp same
    obtain ⟨bank, frame⟩ := Prod.mk.inj eq
    dsimp only at bank frame
    subst bank
    exact .busy e y v (by rw [link, frame]; rfl) flight own only

/-- The exchange goes on with another attempt or step. -/
theorem Worked.sends {y : Exchange} (valid : Bool) (flight : (s.bank b).exchange = some x) (own : x.link = k) (link : y.link = k)
    (loaded : y.loaded = x.loaded) (survey : y.phase = .survey → x.phase = .survey) :
    Worked k s ((s.setBank b ((s.bank b).setLinkRec k (((s.bank b).links.get k).noted s.settings.linkdecay valid))).sendStep k b y) := by
  refine .of_bank (b := b) (.trans (.setBank ..) (.sendStep ..)) ?_ (fun c other => ?_) (fun p _ => rfl) ?_ fun carries => ?_
  · simp only [State.sendStep, State.setLink_link, if_neg k.other_ne, State.setBank_link]
  · simp only [State.sendStep, State.setLink_bank, State.setBank_bank, if_neg other]
  · refine (BankStep.sends x y valid flight own link loaded survey).of_eq ?_ fun i => rfl
    simp only [State.sendStep, State.setLink_bank, State.setBank_bank_self]
    rfl
  · have only (c : BankNo) (z : Exchange) (flies : (s.bank c).exchange = some z) (mine : z.link = k) : c = b := by
      cases carries with
      | idle _ free => exact absurd own (free b x flight)
      | busy e _ _ _ _ _ only => exact (only c z flies mine).trans (only b x flight own).symm
    refine .busy b y .sending ?_ ?_ link fun c z flies mine => ?_
    · simp only [State.sendStep, State.setLink_link_self, State.setLink_bank, State.setBank_bank_self]
    · simp only [State.sendStep, State.setLink_bank, State.setBank_bank_self]
    · by_contra other
      simp only [State.sendStep, State.setLink_bank, State.setBank_bank, if_neg other] at flies
      exact other (only c z flies mine)

/-- The exchange ends. -/
theorem Worked.ends {f : PointNo → PointRec → Bool → PointRec × Bool} (valid : Bool) (flight : (s.bank b).exchange = some x)
    (own : x.link = k)
    (left : ∀ i, SlotLeft x i (s.row b i) (s.bank b).pendingSet[i] (f (pointAt b i) (s.row b i) (s.bank b).pendingSet[i])) :
    Worked k s (s.exchangeOver k b valid f) := by
  refine .of_bank (b := b) (BanksPart.exchangeOver s k b).enginePart (by rw [State.exchangeOver_link, if_neg k.other_ne])
    (fun c other => by rw [State.exchangeOver_bank, if_neg other]) (fun p other => by rw [State.exchangeOver_point, if_neg other]) ?_
    fun carries => ?_
  · refine (BankStep.ends x valid (s.expiry s.settings.survey) _ flight own left).of_eq ?_ fun i => ?_
    · rw [State.exchangeOver_bank, if_pos rfl]
      rfl
    · rw [State.row, State.exchangeOver_point, if_pos (bankOf_pointAt b i), State.slotPending_pointAt]
      rfl
  · refine .idle (by rw [State.exchangeOver_link, if_pos rfl]) fun c y flies mine => ?_
    rw [State.exchangeOver_bank] at flies
    split at flies
    · cases flies
    next other =>
      cases carries with
      | idle _ free => exact absurd mine (free c y flies)
      | busy e _ _ _ _ _ only => exact other ((only c y flies mine).trans (only b x flight own).symm)

theorem Worked.append {t : State} (h : Worked k s t) (e : Event) : Worked k s (t.append e) :=
  ⟨h.part.then_append e, h.link, h.banks, fun carries => (h.carries carries).congr rfl (fun _ => rfl) fun _ => rfl⟩

/-- What a link carries is not touched by a change of a bank that has no exchange in flight before or after. -/
theorem State.Carries.of_idle {t : State} {r : BankRec} (carries : s.Carries k) (bank : ∀ c, t.bank c = if c = b then r else s.bank c)
    (link : t.link k = s.link k) (was : (s.bank b).exchange = none) (is : r.exchange = none) (defn : r.defn = (s.bank b).defn) :
    t.Carries k := by
  refine carries.congr (by rw [link]) (fun c => ?_) fun c => ?_ <;> rw [bank] <;> split
  next same => rw [is, same, was]
  · rfl
  next same => rw [defn, same]
  · rfl

/-- A bank whose last GOOD link fails is disqualified. -/
theorem Worked.retires (state : (s.bank b).state = .active) (active : (s.bank b).activeLink = some k) (idle : (s.bank b).exchange = none)
    (bad : ((s.bank b).links.get k.other).mark ≠ .good) : Worked k s ((s.setBank b ((s.bank b).dead k)).retired b) := by
  have bank (c : BankNo) := (s.setBank b ((s.bank b).dead k)).retired_bank b c
  have point (p : PointNo) := (s.setBank b ((s.bank b).dead k)).retired_point b p
  have link (j : LinkNo) := (s.setBank b ((s.bank b).dead k)).retired_link b j
  have part := (BanksPart.setBank s b ((s.bank b).dead k)).trans (BanksPart.retired _ b)
  generalize (s.setBank b ((s.bank b).dead k)).retired b = t at bank point link part ⊢
  simp only [State.setBank_bank_self] at bank
  simp only [State.setBank_point] at point
  refine .of_bank (b := b) part.enginePart (link _) (fun c other => ?_) (fun p other => ?_) ?_ fun carries => ?_
  · rw [bank, if_neg other, State.setBank_bank, if_neg other]
  · rw [point]
    exact if_neg fun h => other h.1
  · refine (BankStep.retires state active idle (Mark.eq_failed_of_ne_good bad)).of_eq ?_ fun i => ?_
    · rw [bank, if_pos rfl]
      rfl
    · rw [State.row, point]
      simp only [bankOf_pointAt, true_and]
      rfl
  · refine carries.of_idle (b := b) (r := t.bank b) (fun c => ?_) (link _) idle ?_ ?_
    · split
      next same => rw [same]
      next other => rw [bank, if_neg other, State.setBank_bank, if_neg other]
    all_goals rw [bank, if_pos rfl]
    · exact idle
    · rfl

/-- A bank without an exchange in flight is struck, fails over or is disqualified. -/
theorem Worked.struck (state : (s.bank b).state = .active) (active : (s.bank b).activeLink = some k) (idle : (s.bank b).exchange = none)
    (resync : (s.bank b).resync = false) (why : Cause) (tag : Byte) (point : Option PointNo) (slots : Nat) :
    Worked k s (s.linkStruck k b why tag point slots) := by
  have bank {t : State} {r : BankRec} (banks : t.banks = s.banks.set b r) (c : BankNo) := State.bank_of_set (s := s) banks c
  unfold State.linkStruck
  dsimp only
  split
  next limit =>
    refine .append ?_ _
    refine .of_bank (b := b) rfl rfl (fun c other => ?_) (fun p _ => rfl) ?_ fun carries => carries.of_idle (bank rfl) rfl idle idle rfl
    · rw [bank rfl, if_neg other]
    · refine (BankStep.counted state active limit).of_eq ?_ fun i => rfl
      rw [bank rfl, if_pos rfl]
  next =>
    split
    next good =>
      refine .append (.append (.append ?_ _) _) _
      refine .of_bank (b := b) rfl rfl (fun c other => ?_) (fun p _ => rfl) ?_ fun carries => carries.of_idle (bank rfl) rfl idle idle rfl
      · rw [bank rfl, if_neg other]
      · refine (BankStep.failsOver (s.expiry s.settings.settle) state active idle resync good).of_eq ?_ fun i => rfl
        rw [bank rfl, if_pos rfl]
    next bad =>
      have retires := Worked.retires state active idle bad
      rw [State.retired_dead] at retires
      exact .append (.append (.append retires _) _) _

/-- A settle period ends. -/
theorem Worked.settles (state : (s.bank b).state = .warming ∨ (s.bank b).state = .switching) (active : (s.bank b).activeLink = some k)
    (d : Time) : Worked k s (s.activated b k d) := by
  refine .of_bank (b := b) rfl ?_ (fun c other => by rw [State.activated_bank, if_neg other]) (fun p _ => rfl) ?_ fun carries => ?_
  · simp only [State.activated, State.setLink_link, if_neg k.other_ne, State.setBank_link]
  · refine (BankStep.settles state active).of_eq ?_ fun i => rfl
    rw [State.activated_bank, if_pos rfl]
  · refine carries.congr ?_ (fun c => ?_) fun c => ?_
    · simp only [State.activated, State.setLink_link_self]
    all_goals
      rw [State.activated_bank]
      split
      next same => rw [same]
      · rfl

end moves

end Sys2Proof.Machine
end

section
/-! The deeds of the Apply Engine: each is made of moves on one link, which is then busy or has made its choice. -/

namespace Sys2Proof.Machine

-- One proof after another: elaborated side by side, the proofs of the whole text need more memory than the check gives.
set_option Elab.async false

/-- Moves on link `k` lead from `s` to `t`, and the link is served afterwards if it was before. -/
structure Engaged (k : LinkNo) (s t : State) : Prop where
  works : Works k s t
  served : s.ServedOn k → t.ServedOn k

section engaged
variable {k : LinkNo} {b : BankNo} {s t u : State} {x : Exchange}

theorem Engaged.refl (k : LinkNo) (s : State) : Engaged k s s := ⟨.refl k s, id⟩

theorem Engaged.busy (works : Works k s t) (busy : (t.link k).transaction ≠ none) : Engaged k s t := ⟨works, fun _ => .of_busy busy⟩

/-- The moves end with the choice of the link. -/
theorem Engaged.serves (works : Works k s u) (fit : s.BanksFit) : Engaged k s (u.serveLink k) :=
  have fit := works.banksFit fit
  ⟨works.trans (.serveLink k u), fun _ => .serveLink fit.banks (fit.carries k)⟩

/-- The link goes on with what it carries. -/
theorem Engaged.waits {transaction : Option Transaction} {discard : Bool}
    (same : transaction.map (fun t => (t.bank, t.frame)) = (s.link k).transaction.map fun t => (t.bank, t.frame)) :
    Engaged k s (s.setLink k { s.link k with transaction, discardNext := discard }) := by
  refine ⟨(Worked.waits transaction discard same).works, fun served => ?_⟩
  have link : (s.setLink k { s.link k with transaction, discardNext := discard }).link k =
      { s.link k with transaction, discardNext := discard } := by rw [State.setLink_link, if_pos rfl]
  cases carried : (s.link k).transaction with
  | some old =>
    rw [carried] at same
    obtain ⟨new, rfl, -⟩ := Option.map_eq_some_iff.mp same
    exact .of_busy (by rw [link]; nofun)
  | none =>
    rw [carried] at same
    have none_ : transaction = none := by simpa using same
    intro _ settled apart b
    refine served carried settled (fun together => apart ?_) b
    unfold State.SurveysTogether at together ⊢
    rw [link]
    exact together

/-! ## Failed attempts -/

theorem State.exchangeOver_own {f : PointNo → PointRec → Bool → PointRec × Bool} {valid : Bool} :
    ((s.exchangeOver k b valid f).bank b).state = (s.bank b).state ∧
      ((s.exchangeOver k b valid f).bank b).activeLink = (s.bank b).activeLink ∧
      ((s.exchangeOver k b valid f).bank b).exchange = none ∧ ((s.exchangeOver k b valid f).bank b).resync = (s.bank b).resync := by
  rw [State.exchangeOver_bank, if_pos rfl]
  exact ⟨rfl, rfl, rfl, rfl⟩

/-- The end of an exchange with a strike. -/
theorem Works.struck {f : PointNo → PointRec → Bool → PointRec × Bool} {valid : Bool} (fit : s.BanksFit)
    (flight : (s.bank b).exchange = some x) (own : x.link = k) (ended : Works k s (s.exchangeOver k b valid f)) (why : Cause) (tag : Byte)
    (point : Option PointNo) (slots : Nat) : Works k s ((s.exchangeOver k b valid f).linkStruck k b why tag point slots) := by
  obtain ⟨active, link⟩ := (fit.banks b).exchange x flight
  have unset : (s.bank b).resync = false :=
    Bool.eq_false_iff.mpr fun set => (nomatch ((fit.banks b).resync set).2.symm.trans flight)
  obtain ⟨same_state, same_link, idle, same_resync⟩ := State.exchangeOver_own (s := s) (k := k) (b := b) (f := f) (valid := valid)
  exact ended.trans (Worked.struck (same_state.trans active) (same_link.trans (by rw [link, own])) idle (same_resync.trans unset)
    why tag point slots).works

theorem carried_pointAt (es : List Entry) (b : BankNo) (i : SlotNo) : carried es (pointAt b i) = entryFor es i := by
  have slots : carried es (pointAt b i) = entryFor es (slotOf (pointAt b i)) := rfl
  rw [slots, slotOf_pointAt]

theorem Exchange.abandonPoint_left (x : Exchange) (i : SlotNo) (r : PointRec) (member : Bool) :
    SlotLeft x i r member (x.abandonPoint (pointAt b i) r member) := by
  unfold Exchange.abandonPoint
  rw [carried_pointAt]
  cases entry : entryFor x.loaded i with
  | none => cases x.phase <;> exact .unloaded (.inr entry)
  | some v =>
    cases phase : x.phase with
    | load => exact .reconciled v r.applied entry (.inl rfl)
    | transfer => exact .reconciled v none entry (.inr (.inl rfl))
    | survey => exact .unloaded (.inl phase)

theorem Engaged.attemptFails (fit : s.BanksFit) (flight : (s.bank b).exchange = some x) (own : x.link = k) (f : Failure) :
    Engaged k s (s.attemptFails k b x f) := by
  cases attempt : x.attempt with
  | first =>
    have again : s.attemptFails k b x f = (s.noteFailedAttempt b k).sendStep k b { x with attempt := .second } := by
      unfold State.attemptFails
      simp only [attempt]
    rw [again]
    refine .busy (Worked.sends (y := { x with attempt := .second }) false flight own own rfl id).works ?_
    simp only [State.sendStep, State.setLink_link_self]
    exact nofun
  | second =>
    rw [State.attemptFails_second attempt]
    exact .serves (.struck fit flight own (Worked.ends false flight own fun i => x.abandonPoint_left i _ _).works ..) fit

/-! ## Replies -/

theorem Engaged.judgeEcho (fit : s.BanksFit) (flight : (s.bank b).exchange = some x) (own : x.link = k)
    (es : List Entry) : Engaged k s (s.judgeEcho k b x es) := by
  unfold State.judgeEcho
  split
  · refine .busy (Worked.sends (y := { x with phase := .transfer, attempt := .first }) true flight own own rfl nofun).works ?_
    simp only [State.sendStep, State.setLink_link_self]
    exact nofun
  · exact .attemptFails fit flight own .echo

/-- The end of an exchange, with a strike where points failed. -/
theorem Engaged.ended {f : PointNo → PointRec → Bool → PointRec × Bool} {failed : List PointNo} (fit : s.BanksFit)
    (flight : (s.bank b).exchange = some x) (own : x.link = k)
    (left : ∀ i, SlotLeft x i (s.row b i) (s.bank b).pendingSet[i] (f (pointAt b i) (s.row b i) (s.bank b).pendingSet[i]))
    (why : Cause) (tag : Byte) (point : Option PointNo) (slots : Nat) :
    Engaged k s ((if failed = [] then s.exchangeOver k b failed.isEmpty f
      else (s.exchangeOver k b failed.isEmpty f).linkStruck k b why tag point slots).serveLink k) := by
  have ended := (Worked.ends (f := f) failed.isEmpty flight own left).works
  refine .serves ?_ fit
  split
  · exact ended
  · exact .struck fit flight own ended ..

theorem Engaged.judgeDone (fit : s.BanksFit) (flight : (s.bank b).exchange = some x) (own : x.link = k) (transfer : x.phase = .transfer)
    (es : List Entry) : Engaged k s (s.judgeDone k b x es) := by
  rw [State.judgeDone_eq transfer rfl]
  refine .ended fit flight own (fun i => ?_) ..
  rw [carried_pointAt]
  cases entry : entryFor x.loaded i with
  | none => exact .unloaded (.inr entry)
  | some v =>
    refine .reconciled v _ entry ?_
    split
    · exact .inr (.inr rfl)
    · exact .inr (.inl rfl)

theorem Engaged.judgeState (fit : s.BanksFit) (flight : (s.bank b).exchange = some x) (own : x.link = k) (survey : x.phase = .survey)
    (es : List Entry) : Engaged k s (s.judgeState k b x es) := by
  rw [State.judgeState_eq survey rfl]
  refine .ended fit flight own (fun i => ?_) ..
  split
  next mem =>
    refine .failed (.inl survey) ?_
    have fails := (List.mem_filter.mp mem).2
    rw [State.row]
    split at fails
    next v _ applied => rw [applied]; rfl
    · cases fails
  · exact .unloaded (.inl survey)

theorem Engaged.judge (fit : s.BanksFit) (flight : (s.bank b).exchange = some x) (own : x.link = k) (bytes : List RxByte) :
    Engaged k s (s.judge k b x bytes) := by
  unfold State.judge
  split
  · exact .attemptFails fit flight own .check
  next es _ =>
    cases phase : x.phase with
    | load => exact .judgeEcho fit flight own es
    | transfer => exact .judgeDone fit flight own phase es
    | survey => exact .judgeState fit flight own phase es

/-! ## Events of the driver links and deadlines of banks -/

/-- An awaited reply is that of the exchange the link carries. -/
theorem State.awaited_flight (fit : s.BanksFit) (awaited : s.awaited k = some (b, x)) : (s.bank b).exchange = some x ∧ x.link = k := by
  unfold State.awaited at awaited
  split at awaited
  next c f e waits =>
    obtain ⟨y, flight, eq⟩ := Option.map_eq_some_iff.mp awaited
    obtain ⟨rfl, rfl⟩ := Prod.mk.inj eq
    refine ⟨flight, ?_⟩
    cases fit.carries k with
    | idle none => rw [waits] at none; cases none
    | busy d z w carried flies own =>
      obtain ⟨rfl, -⟩ := Transaction.mk.inj (Option.some.inj (waits.symm.trans carried))
      obtain rfl := Option.some.inj (flight.symm.trans flies)
      exact own
  · cases awaited

theorem Engaged.frameSent (s : State) (k : LinkNo) : Engaged k s (s.frameSent k) := by
  unfold State.frameSent
  split
  next t carried =>
    split
    · exact .waits (by rw [carried]; rfl)
    · exact .refl k s
  · exact .refl k s

theorem Engaged.replyTimeout (fit : s.BanksFit) (k : LinkNo) (mid : Bool) : Engaged k s (s.replyTimeout k mid) := by
  unfold State.replyTimeout
  split
  next c y _ awaited =>
    obtain ⟨flight, own⟩ := State.awaited_flight fit awaited
    have waits : Engaged k s (s.setLink k { s.link k with discardNext := mid }) := .waits rfl
    have fails := Engaged.attemptFails (waits.works.banksFit fit) (b := c) (x := y) flight own .timeout
    exact ⟨waits.works.trans fails.works, fun served => fails.served (waits.served served)⟩
  · exact .refl k s

theorem Engaged.frameReceived (fit : s.BanksFit) (k : LinkNo) (bytes : List RxByte) : Engaged k s (s.frameReceived k bytes) := by
  unfold State.frameReceived
  split
  · exact .waits rfl
  · split
    · exact .refl k s
    next c y awaited =>
      obtain ⟨flight, own⟩ := State.awaited_flight fit awaited
      exact .judge fit flight own bytes

theorem Engaged.settleReached (fit : s.BanksFit) (b : BankNo) {st : BankState} (period : st = .warming ∨ st = .switching) :
    ∃ k, Engaged k s (s.settleReached b st) := by
  obtain ⟨same, -⟩ | ⟨d, -, state, -, settled⟩ := s.settleReached_cases b st
  · exact ⟨.one, by rw [same]; exact .refl _ s⟩
  · rw [settled]
    have state : (s.bank b).state = .warming ∨ (s.bank b).state = .switching := by rwa [state]
    have linked : (s.bank b).activeLink ≠ none := fun none => by
      rw [(fit.banks b).active.mp none] at state
      simp at state
    obtain ⟨k, active⟩ := Option.ne_none_iff_exists'.mp linked
    rw [State.settled_eq _ active]
    exact ⟨k, .serves (Worked.settles state active d.ms).works fit⟩

theorem Engaged.surveyFallsDue (fit : s.BanksFit) (b : BankNo) : ∃ k, Engaged k s (s.surveyFallsDue b) := by
  obtain ⟨same, -⟩ | ⟨d, k, -, -, -, -, due⟩ := s.surveyFallsDue_cases b
  · exact ⟨.one, by rw [same]; exact .refl _ s⟩
  · rw [due]
    exact ⟨k, .serves (.refl k s) fit⟩

end engaged

end Sys2Proof.Machine
end

section
/-! The laws of the banks in CONFIGURE and at the entry of a mode, and the statement about them. -/

namespace Sys2Proof.Machine

-- One proof after another: elaborated side by side, the proofs of the whole text need more memory than the check gives.
set_option Elab.async false

/-! ## Banks in CONFIGURE -/

/-- A bank record in CONFIGURE, but for its definition and state (R90, R106, R107). -/
structure BankRec.Idle (r : BankRec) : Prop where
  links : r.links = ⟨LinkRec.fresh, LinkRec.fresh⟩
  tag : r.tag = 0#8
  pendingSet : r.pendingSet = noSlots
  resync : r.resync = false
  settle : r.settle = none
  surveyDue : r.surveyDue = none
  exchange : r.exchange = none
  enable : r.enable = false
  active : r.activeLink.isSome = true

section idle
variable {s t : State}

theorem fresh_get (k : LinkNo) : (⟨LinkRec.fresh, LinkRec.fresh⟩ : PerLink LinkRec).get k = LinkRec.fresh := by cases k <;> rfl

/-- An idle bank that is not started. -/
theorem BankRec.Idle.fits {r : BankRec} (idle : r.Idle) (state : r.state = .unused ∨ r.state = .down)
    (address : ∀ d, r.defn = some d → 1 ≤ d.address ∧ d.address ≤ 31) : r.Fits where
  enable := by
    rw [idle.enable]
    obtain h | h := state <;> rw [h] <;> decide
  address := address
  active := by
    refine iff_of_false (fun none => ?_) ?_
    · have active := idle.active
      rw [none] at active
      cases active
    · obtain h | h := state <;> rw [h] <;> decide
  good k _ := by rw [idle.links, fresh_get]; rfl
  failed k h := by obtain u | u := state <;> rw [u] at h <;> cases h
  settle := by
    rw [idle.settle]
    obtain h | h := state <;> rw [h] <;> decide
  resync h := by rw [idle.resync] at h; cases h
  exchange x h := by rw [idle.exchange] at h; cases h

/-- What makes the banks of a state in CONFIGURE lawful. -/
structure State.Configured (s : State) : Prop where
  mode : s.mode = .configure
  idle : ∀ b, (s.bank b).Idle
  state : ∀ b, (s.bank b).state = if s.inUse b then .down else .unused
  address : ∀ b d, (s.bank b).defn = some d → 1 ≤ d.address ∧ d.address ≤ 31
  unique : ∀ b c d e, (s.bank b).defn = some d → (s.bank c).defn = some e → d.address = e.address → b = c
  links : ∀ k, (s.link k).transaction = none

theorem State.Configured.unstarted (h : s.Configured) (b : BankNo) : (s.bank b).state = .unused ∨ (s.bank b).state = .down := by
  rw [h.state]
  split
  · exact .inr rfl
  · exact .inl rfl

theorem State.Configured.banksOk (h : s.Configured) : s.BanksOk := by
  rw [State.banksOk_iff]
  refine ⟨⟨fun _ b => ⟨h.state b, (h.idle b).links, (h.idle b).tag, (h.idle b).pendingSet, (h.idle b).resync, (h.idle b).settle,
      (h.idle b).surveyDue, (h.idle b).exchange⟩, fun left => absurd h.mode left, fun left => absurd h.mode left, h.unique,
    fun b => (h.idle b).fits (h.unstarted b) (h.address b), fun k => .idle (h.links k) fun b x flight => ?_⟩,
    fun k _ _ _ b active => ?_⟩
  · rw [(h.idle b).exchange] at flight
    cases flight
  · obtain u | u := h.unstarted b <;> rw [u] at active <;> cases active

theorem State.BanksFit.configured (fit : s.BanksFit) (conf : s.mode = .configure) : s.Configured := by
  have facts := fit.configure conf
  have state (b : BankNo) : (s.bank b).state = .unused ∨ (s.bank b).state = .down := by
    rw [(facts b).1]
    split
    · exact .inr rfl
    · exact .inl rfl
  refine ⟨conf, fun b => ?_, fun b => (facts b).1, fun b => (fit.banks b).address, fit.unique, fun k => ?_⟩
  · obtain ⟨-, links, tag, pendingSet, resync, settle, surveyDue, exchange⟩ := facts b
    refine ⟨links, tag, pendingSet, resync, settle, surveyDue, exchange, Bool.eq_false_iff.mpr fun high => ?_, ?_⟩
    · have started := (fit.banks b).enable.mp high
      obtain h | h := state b <;> rw [h] at started <;> simp at started
    · refine Option.isSome_iff_ne_none.mpr fun none => ?_
      have disqualified := (fit.banks b).active.mp none
      obtain h | h := state b <;> rw [h] at disqualified <;> cases disqualified
  · cases fit.carries k with
    | idle none => exact none
    | busy b x w _ flight =>
      have none := (facts b).2.2.2.2.2.2.2
      rw [flight] at none
      cases none

/-! ## The requests of CONFIGURE -/

theorem State.reevaluated_bank (u : State) (b c : BankNo) : ((u.reevaluateBank b).recomputeDigest).bank c =
    if c = b then { u.bank b with state := if u.inUse b then .down else .unused, enable := false } else u.bank c :=
  u.setBank_bank b c _

/-- A bank whose definition or points have changed is re-evaluated; the others are as they were. -/
theorem State.Configured.reevaluated {u : State} (h : s.Configured) (b : BankNo) (mode : u.mode = s.mode) (links : u.links = s.links)
    (other : ∀ c, c ≠ b → u.bank c = s.bank c) (inUse : ∀ c, c ≠ b → u.inUse c = s.inUse c) (idle : (u.bank b).Idle)
    (address : ∀ d, (u.bank b).defn = some d → 1 ≤ d.address ∧ d.address ≤ 31)
    (unique : ∀ c d e, c ≠ b → (u.bank b).defn = some d → (s.bank c).defn = some e → d.address ≠ e.address) :
    ((u.reevaluateBank b).recomputeDigest).Configured := by
  have bank (c : BankNo) : ((u.reevaluateBank b).recomputeDigest).bank c =
      if c = b then { u.bank b with state := if u.inUse b then .down else .unused, enable := false } else s.bank c := by
    rw [State.reevaluated_bank]
    split
    · rfl
    next ne => exact other c ne
  have defn (c : BankNo) : (((u.reevaluateBank b).recomputeDigest).bank c).defn = (u.bank c).defn := by
    rw [bank]
    split
    next same => rw [same]
    next ne => rw [other c ne]
  have uses (c : BankNo) : ((u.reevaluateBank b).recomputeDigest).inUse c = u.inUse c :=
    State.inUse_congr (s := u) (t := (u.reevaluateBank b).recomputeDigest) (fun _ => rfl) defn c
  refine ⟨mode.trans h.mode, fun c => ?_, fun c => ?_, fun c d => ?_, fun c e d f => ?_, fun k => ?_⟩
  · rw [bank]
    split
    · exact ⟨idle.links, idle.tag, idle.pendingSet, idle.resync, idle.settle, idle.surveyDue, idle.exchange, rfl, idle.active⟩
    · exact h.idle c
  · rw [uses, bank]
    split
    next same => rw [same]
    next ne => rw [inUse c ne, h.state c]
  · rw [defn]
    by_cases same : c = b
    · rw [same]; exact address d
    · rw [other c same]; exact h.address c d
  · rw [defn, defn]
    intro hc he equal
    by_contra apart
    by_cases first : c = b
    · rw [first] at hc
      rw [other e fun second => apart (first.trans second.symm)] at he
      exact unique e d f (fun second => apart (first.trans second.symm)) hc he equal
    · rw [other c first] at hc
      by_cases second : e = b
      · rw [second] at he
        exact unique c f d first he hc equal.symm
      · rw [other e second] at he
        exact apart (h.unique c e d f hc he equal)
  · have link : ((u.reevaluateBank b).recomputeDigest).link k = s.link k := congrArg (PerLink.get · k) links
    rw [link]
    exact h.links k

theorem State.inUse_setPoint (s : State) (p : PointNo) (r : PointRec) {c : BankNo} (other : c ≠ bankOf p) :
    (s.setPoint p r).inUse c = s.inUse c := by
  have point (i : SlotNo) : (s.setPoint p r).point (pointAt c i) = s.point (pointAt c i) := by
    rw [State.setPoint_point, if_neg]
    rintro rfl
    exact other (bankOf_pointAt c i).symm
  rw [Bool.eq_iff_iff, State.inUse_iff, State.inUse_iff]
  simp only [State.Serves, point]
  rfl

theorem State.Configured.setPoint (h : s.Configured) (p : PointNo) (r : PointRec) : ((s.setPoint p r).afterPointChange p).Configured :=
  h.reevaluated (bankOf p) rfl rfl (fun _ _ => rfl) (fun _ => s.inUse_setPoint p r) (h.idle _) (h.address _)
    fun c d e other hd he equal => other (h.unique c (bankOf p) e d he hd equal.symm)

theorem State.inUse_setBank (s : State) (b : BankNo) (r : BankRec) {c : BankNo} (other : c ≠ b) :
    (s.setBank b r).inUse c = s.inUse c := by
  rw [Bool.eq_iff_iff, State.inUse_iff, State.inUse_iff]
  simp only [State.Serves, State.setBank_bank, if_neg other, State.setBank_point]

theorem State.clash_free {b : BankNo} {address : Nat} (free : s.clash b address = none) {c : BankNo} {e : BankDef} (other : c ≠ b)
    (defn : (s.bank c).defn = some e) : address ≠ e.address := by
  have absent := List.find?_eq_none.mp free c (List.mem_finRange c)
  rintro rfl
  simp [other, defn] at absent

theorem State.Configured.defineBank (h : s.Configured) (b : BankNo) (d : BankDef) (range : 1 ≤ d.address ∧ d.address ≤ 31)
    (free : s.clash b d.address = none) : (s.defineBank b d).Configured := by
  have bank : (s.setBank b { s.bank b with defn := some d, activeLink := some d.primary }).bank b =
      { s.bank b with defn := some d, activeLink := some d.primary } := s.setBank_bank_self b _
  have own := h.idle b
  refine h.reevaluated b rfl rfl (fun c other => by rw [State.setBank_bank, if_neg other]) (fun c => s.inUse_setBank b _) ?_
    (fun e he => ?_) fun c e f other he hf => ?_
  · rw [bank]
    exact ⟨own.links, own.tag, own.pendingSet, own.resync, own.settle, own.surveyDue, own.exchange, own.enable, rfl⟩
  · rw [bank] at he
    obtain rfl := Option.some.inj he
    exact range
  · rw [bank] at he
    obtain rfl := Option.some.inj he
    exact State.clash_free free other hf

theorem State.inUse_of_undefined {b : BankNo} (none : (s.bank b).defn = none) : s.inUse b = false := by
  rw [State.inUse, none]
  rfl

theorem State.Configured.removeBank (h : s.Configured) (b : BankNo) : (s.removeBank b).Configured := by
  have bank (c : BankNo) : (s.removeBank b).bank c =
      if c = b then { s.bank b with defn := none, state := .unused, enable := false } else s.bank c := s.setBank_bank b c _
  have uses (c : BankNo) (other : c ≠ b) : (s.removeBank b).inUse c = s.inUse c := s.inUse_setBank b _ other
  have own := h.idle b
  have kept (c : BankNo) (d : BankDef) (defn : ((s.removeBank b).bank c).defn = some d) : (s.bank c).defn = some d := by
    rw [bank] at defn
    split at defn
    · cases defn
    · exact defn
  refine ⟨h.mode, fun c => ?_, fun c => ?_, fun c d defn => h.address c d (kept c d defn),
    fun c e d f hc he => h.unique c e d f (kept c d hc) (kept e f he), h.links⟩
  · rw [bank]
    split
    · exact ⟨own.links, own.tag, own.pendingSet, own.resync, own.settle, own.surveyDue, own.exchange, rfl, own.active⟩
    · exact h.idle c
  · by_cases same : c = b
    · have undefined : ((s.removeBank b).bank c).defn = none := by rw [bank, if_pos same]
      rw [State.inUse_of_undefined undefined, bank, if_pos same]
      rfl
    · rw [uses c same, bank, if_neg same]
      exact h.state c

theorem State.Configured.settings (h : s.Configured) (g : Settings) : (State.recomputeDigest { s with settings := g }).Configured :=
  ⟨h.mode, h.idle, h.state, h.address, h.unique, h.links⟩

end idle

/-! ## The entries of the modes -/

section entries
variable {s t : State} {l : Lane}

theorem State.startUp_inUse (s : State) (l : Lane) (b : BankNo) : (s.startUp l).inUse b = s.inUse b :=
  State.inUse_congr (fun p => by rw [State.startUp_point, PointRec.started_defn]) (fun b => by rw [State.startUp_bank, State.bankBegun_defn]) b

theorem State.defined_of_complete (complete : s.missingBank = none) {p : PointNo} (defined : (s.point p).defn.isSome = true) :
    (s.bank (bankOf p)).defn.isSome = true := by
  have absent := List.find?_eq_none.mp complete (bankOf p) (List.mem_finRange _)
  rw [State.missing_iff] at absent
  by_contra undefined
  exact absent ⟨⟨slotOf p, by rwa [pointAt_bankOf_slotOf]⟩, by simpa using undefined⟩

/-- A bank in use is started: WARMING on its primary link, with everything else afresh (R91). -/
theorem BankRec.Idle.warmed {r : BankRec} (idle : r.Idle) (defined : r.defn.isSome = true)
    (address : ∀ d, r.defn = some d → 1 ≤ d.address ∧ d.address ≤ 31) (deadline : Moment) : (r.warmed deadline).Fits where
  enable := iff_of_true rfl (.inl rfl)
  address := address
  active := iff_of_false (fun none => by
    rw [Option.map_eq_none_iff.mp none] at defined
    cases defined) nofun
  good k _ := congrArg LinkRec.mark (fresh_get k)
  failed _ := nofun
  settle := iff_of_true rfl (.inl rfl)
  resync := nofun
  exchange x flight := (nomatch idle.exchange.symm.trans flight)

theorem State.Configured.startUp (h : s.Configured) (l : Lane) (complete : s.missingBank = none) : (s.startUp l).BanksOk := by
  have bank := s.startUp_bank l
  have link (k : LinkNo) : (s.startUp l).link k = s.link k := congrArg (PerLink.get · k) (s.startUp_links l)
  have bank_defn (b : BankNo) : ((s.startUp l).bank b).defn = (s.bank b).defn := by rw [bank, State.bankBegun_defn]
  have begun (b : BankNo) : s.Serves b ∧ (s.startUp l).bank b = (s.bank b).warmed (s.expiry s.settings.settle) ∨
      ¬ s.Serves b ∧ (s.startUp l).bank b = s.bank b := by
    rw [bank, State.bankBegun]
    by_cases serves : s.Serves b
    · exact .inl ⟨serves, if_pos serves⟩
    · exact .inr ⟨serves, if_neg serves⟩
  rw [State.banksOk_iff]
  refine ⟨⟨fun conf => ?_, fun _ b => ?_, fun _ p defined => ?_, ?_, fun b => ?_, fun k => .idle ?_ fun b x flight => ?_⟩,
    fun k _ _ _ b active => ?_⟩
  · rw [State.startUp_mode] at conf
    cases conf
  · rw [State.startUp_inUse]
    obtain ⟨serves, started⟩ | ⟨serves, same⟩ := begun b
    · rw [started, (s.inUse_iff b).mpr serves]
      exact ⟨nofun, iff_of_false nofun nofun⟩
    · have unused : s.inUse b = false := Bool.eq_false_iff.mpr ((s.inUse_iff b).not.mpr serves)
      have state := h.state b
      rw [unused] at state
      rw [same, unused, show (s.bank b).state = .unused from state]
      exact ⟨nofun, iff_of_true rfl rfl⟩
  · rw [PointRec.defined, State.startUp_point, PointRec.started_defn] at defined
    rw [bank_defn]
    exact State.defined_of_complete complete defined
  · simpa only [bank_defn] using h.unique
  · obtain ⟨serves, started⟩ | ⟨-, same⟩ := begun b
    · rw [started]
      exact (h.idle b).warmed serves.1 (h.address b) _
    · rw [same]
      exact (h.idle b).fits (h.unstarted b) (h.address b)
  · rw [link]
    exact h.links k
  · have none : (s.bank b).exchange = none := (h.idle b).exchange
    obtain ⟨-, started⟩ | ⟨-, same⟩ := begun b
    · rw [started] at flight
      exact nomatch none.symm.trans flight
    · rw [same, none] at flight
      cases flight
  · obtain ⟨-, started⟩ | ⟨-, same⟩ := begun b
    · rw [started] at active
      cases active
    · rw [same] at active
      obtain u | u := h.unstarted b <;> rw [u] at active <;> cases active

theorem State.BanksOk.resumeRun (ok : s.BanksOk) (safe : s.mode = .safe) : (s.resumeRun l).BanksOk := by
  rw [State.banksOk_iff] at ok ⊢
  exact ⟨ok.1.congr (.inr ⟨nofun, by rw [safe]; decide⟩) (fun _ => rfl) rfl rfl,
    fun k => (ok.2 k).congr rfl fun _ => ⟨rfl, rfl, rfl, Iff.rfl⟩⟩

theorem State.BanksFit.restartPart (fit : s.BanksFit) (left : s.mode ≠ .configure) : (s.restartPart l).Configured := by
  have bank := s.restartPart_bank l
  have inUse (b : BankNo) : (s.restartPart l).inUse b = s.inUse b :=
    State.inUse_congr (fun p => by rw [State.restartPart_point]; rfl) (fun b => by rw [bank]; rfl) b
  have defn (b : BankNo) : ((s.restartPart l).bank b).defn = (s.bank b).defn := by rw [bank]; rfl
  refine ⟨s.restartPart_mode l, fun b => ?_, fun b => ?_, fun b d => ?_, ?_, fun k => ?_⟩
  · rw [bank]
    refine ⟨rfl, rfl, rfl, rfl, rfl, rfl, rfl, rfl, ?_⟩
    unfold BankRec.restarted
    dsimp only
    split
    · rfl
    next none =>
      refine Option.isSome_iff_ne_none.mpr fun unlinked => ?_
      have unused := (fit.used left b).2.mpr (State.inUse_of_undefined none)
      rw [(fit.banks b).active.mp unlinked] at unused
      cases unused
  · rw [bank, inUse, BankRec.restarted]
    simp only [decide_eq_true_eq, State.inUse_iff]
  · rw [defn]
    exact (fit.banks b).address d
  · simpa only [defn] using fit.unique
  · rw [State.restartPart_link]
    rfl

/-- What an event of lanes and round leaves of the banks. -/
theorem Passes.banksOk (h : Passes s t) (roles : s.RolesOk) (ok : s.BanksOk) : t.BanksOk := by
  obtain ⟨u, acts, -, -, -, ends⟩ := h
  obtain ⟨fit, served⟩ := State.banksOk_iff.mp ok
  have fit := (acts.banksFit (State.rolesOk_iff.mp roles).1 fit).2
  obtain ⟨rfl, -, -, banks, links⟩ | rfl := ends
  · have bank (b : BankNo) : t.bank b = s.bank b := congrArg (·[b]) banks
    refine State.banksOk_iff.mpr ⟨fit, fun k => (served k).congr (congrArg (PerLink.get · k) links) fun b => ?_⟩
    rw [bank]
    exact ⟨rfl, rfl, rfl, Iff.rfl⟩
  · have first := (Works.serveLink .one u).banksFit fit
    have second := Works.serveLink .two (u.serveLink .one)
    refine State.banksOk_iff.mpr ⟨second.banksFit first, fun k => ?_⟩
    cases k with
    | one => exact second.served_other first (.serveLink fit.banks (fit.carries .one))
    | two => exact .serveLink first.banks (first.carries .two)

theorem Asked.banksOk (h : Asked s t) (roles : s.RolesOk) (ok : s.BanksOk) : t.BanksOk := by
  have configured (conf : s.mode = .configure) : s.Configured := (State.banksOk_iff.mp ok).1.configured conf
  cases h with
  | passes h => exact h.banksOk roles ok
  | point p d conf => exact ((configured conf).setPoint p _).banksOk
  | drop p conf => exact ((configured conf).setPoint p _).banksOk
  | bank b d conf range free => exact ((configured conf).defineBank b d range free).banksOk
  | removal b conf => exact ((configured conf).removeBank b).banksOk
  | setting n v conf => exact ((configured conf).settings _).banksOk
  | starts l conf role complete => exact (configured conf).startUp l complete
  | resumes l safe => exact ok.resumeRun safe
  | restarts l left => exact ((State.banksOk_iff.mp ok).1.restartPart left).banksOk

/-- A deed of the Apply Engine is made of moves on one link. -/
theorem Deed.OfEngine.engaged {d : Deed} (engine : d.OfEngine) (fit : s.BanksFit) (allowed : d.Allowed s) : ∃ k, Engaged k s (d.run s) := by
  cases d with
  | settleReached b st => exact Engaged.settleReached fit b allowed
  | surveyFallsDue b => exact Engaged.surveyFallsDue fit b
  | frameSent k => exact ⟨k, .frameSent s k⟩
  | replyTimeout k mid => exact ⟨k, .replyTimeout fit k mid⟩
  | frameReceived k bytes => exact ⟨k, .frameReceived fit k bytes⟩
  | _ => exact engine.elim

theorem Engaged.banksOk {k : LinkNo} (h : Engaged k s t) (ok : s.BanksOk) : t.BanksOk := by
  obtain ⟨fit, served⟩ := State.banksOk_iff.mp ok
  refine State.banksOk_iff.mpr ⟨h.works.banksFit fit, fun j => ?_⟩
  obtain rfl | rfl := LinkNo.eq_or_other j k
  · exact h.served (served j)
  · exact h.works.served_other fit (served _)

end entries

/-! ## A reset -/

section reset
variable (power : PerLane PowerLine)

theorem State.afterReset_bank (b : BankNo) : (State.afterReset power).bank b = BankRec.blank := Vector.getElem_replicate b.isLt

theorem State.afterReset_point (p : PointNo) : (State.afterReset power).point p = PointRec.blank := Vector.getElem_replicate p.isLt

theorem State.afterReset_link (k : LinkNo) : (State.afterReset power).link k = LinkCtl.reset := PerLink.get_ofFn ..

theorem State.afterReset_configured : (State.afterReset power).Configured := by
  have undefined (b : BankNo) : ((State.afterReset power).bank b).defn = none := by rw [State.afterReset_bank]; rfl
  refine ⟨rfl, fun b => ?_, fun b => ?_, fun b d defn => ?_, fun b c d e defn => ?_, fun k => ?_⟩
  · rw [State.afterReset_bank]
    exact ⟨rfl, rfl, rfl, rfl, rfl, rfl, rfl, rfl, rfl⟩
  · rw [State.inUse_of_undefined (undefined b), State.afterReset_bank]
    rfl
  · rw [undefined] at defn
    cases defn
  · rw [undefined] at defn
    cases defn
  · rw [State.afterReset_link]
    rfl

end reset

/-- The laws of the banks are kept by every outcome of a request and by the engine. -/
theorem banksOk_kept : KeptWithRoles fun s => s.RolesOk ∧ s.BanksOk where
  roles _ h := h.1
  asked _ _ ok h := ⟨h.rolesOk ok.1, h.banksOk ok.1 ok.2⟩
  engine s d ok allowed engine part _ := by
    obtain ⟨k, engaged⟩ := engine.engaged (State.banksOk_iff.mp ok.2).1 allowed
    exact ⟨ok.1.engine part, engaged.banksOk ok.2⟩
  reset power sampled := ⟨State.afterReset_rolesOk power sampled, (State.afterReset_configured power).banksOk⟩

/-- Settles O57. -/
theorem banksKept : Obligations.BanksKept := fun _ _ roles banks h => (banksOk_kept.kept.step h ⟨roles, banks⟩).2

end Sys2Proof.Machine
end

section
/-! The laws of the counters and of the points, and the statements about them and about the state after a reset. -/

namespace Sys2Proof.Machine

-- One proof after another: elaborated side by side, the proofs of the whole text need more memory than the check gives.
set_option Elab.async false

/-! ## Counters -/

section counts
variable {s t : State} {l : Lane}

theorem Passes.countsOk (h : Passes s t) (roles : s.RolesOk) (ok : s.CountsOk) : t.CountsOk := by
  obtain ⟨u, acts, -, -, -, ends⟩ := h
  have ok := acts.countsOk (State.rolesOk_iff.mp roles).1 ok
  obtain ⟨rfl, -⟩ | rfl := ends
  · exact ok
  · exact (Works.serveLink .two _).countsOk ((Works.serveLink .one u).countsOk ok)

theorem Settings.InRange.put {g : Settings} (range : g.InRange) {n : SettingName} {v : Nat}
    (value : (settingRange n).1 ≤ v ∧ v ≤ (settingRange n).2) : (g.put n v).InRange := by
  intro m
  by_cases same : m = n
  · rw [same, Settings.get_put_self]
    exact value
  · rw [Settings.get_put_ne _ _ same]
    exact range m

/-- A link record that counts nothing keeps every limit. -/
theorem LinkRec.fresh_counts {g : Settings} (range : g.InRange) :
    LinkRec.fresh.strikes < g.linkstrikes ∧ LinkRec.fresh.streak < g.linkdecay := by
  have strikes_pos : 1 ≤ g.linkstrikes := (range .linkstrikes).1
  have decay_pos : 8 ≤ g.linkdecay := (range .linkdecay).1
  dsimp only [LinkRec.fresh]
  omega

theorem BankRec.counts_of_fresh {g : Settings} {r : BankRec} (range : g.InRange) (links : r.links = ⟨LinkRec.fresh, LinkRec.fresh⟩) :
    r.Counts g := fun k => by
  rw [links, fresh_get]
  exact LinkRec.fresh_counts range

/-- In CONFIGURE no counter runs but that of the suspensions, so that every setting in range will do. -/
theorem State.CountsOk.setting (ok : s.CountsOk) (roles : s.RolesOk) (conf : s.Configured) {g : Settings} (range : g.InRange) :
    (State.recomputeDigest { s with settings := g }).CountsOk := by
  refine State.countsOk_iff.mpr ⟨range, fun m => ?_, fun b => BankRec.counts_of_fresh range (conf.idle b).links⟩
  have out : s.role m ≠ .held ∧ s.role m ≠ .probation ∧ (s.role m).voting = false := by
    obtain role | role := roles.configure conf.mode m <;> rw [role] <;> decide
  obtain ⟨unheld, other, nonvoter⟩ := out
  obtain ⟨-, -, none, no_streak⟩ := roles.free m unheld
  obtain ⟨strikes, streak⟩ := ok.nonvoter m nonvoter
  obtain ⟨clean, fails⟩ := ok.outside m other
  exact .idle range ⟨strikes, streak, clean, fails⟩ (fun n carried => (nomatch none.symm.trans carried))
    (fun n carried => (nomatch no_streak.symm.trans carried)) (ok.suspensions m)

/-- Lanes and banks of a mode entry: each lane record as it was or changed by a step, each bank's links as they were or fresh. -/
theorem State.CountsOk.entry (ok : s.CountsOk) (roles : s.RolesOk) (settings : t.settings = s.settings)
    (lanes : ∀ m, t.lane m = s.lane m ∨ LaneStep s.settings (s.lane m) (t.lane m))
    (links : ∀ b, (t.bank b).links = (s.bank b).links ∨ (t.bank b).links = ⟨LinkRec.fresh, LinkRec.fresh⟩) : t.CountsOk := by
  obtain ⟨range, counts, limits⟩ := State.countsOk_iff.mp ok
  rw [State.countsOk_iff, settings]
  refine ⟨range, fun m => ?_, fun b => ?_⟩
  · obtain same | step := lanes m
    · rw [same]
      exact counts m
    · exact step.counts range ((State.rolesOk_iff.mp roles).1.lanes m) (counts m)
  · obtain same | fresh := links b
    · rw [same]
      exact limits b
    · exact BankRec.counts_of_fresh range fresh

/-- A lane takes office and the others stay. -/
theorem State.takesOffice_lane {e : Moment} (lanes : t.lanes = s.lanes.set l ((s.lane l).takeOffice e))
    (role : s.role l = .absent ∨ s.role l = .suspended) (m : Lane) : t.lane m = s.lane m ∨ LaneStep s.settings (s.lane m) (t.lane m) := by
  have lane : t.lane m = if m = l then (s.lane l).takeOffice e else s.lane m := by
    rw [State.lane, lanes]
    exact PerLane.get_set ..
  rw [lane]
  split
  next same =>
    rw [same]
    exact .inr (.tookOffice e role)
  · exact .inl rfl

theorem State.bankBegun_links (s : State) (b : BankNo) :
    (s.bankBegun b).links = (s.bank b).links ∨ (s.bankBegun b).links = ⟨LinkRec.fresh, LinkRec.fresh⟩ := by
  unfold State.bankBegun
  split
  · exact .inr rfl
  · exact .inl rfl

theorem Asked.countsOk (h : Asked s t) (roles : s.RolesOk) (banks : s.BanksOk) (ok : s.CountsOk) : t.CountsOk := by
  cases h with
  | passes h => exact h.countsOk roles ok
  | point | drop =>
    refine ok.congr rfl rfl fun b => ?_
    refine (congrArg BankRec.links (State.reevaluated_bank _ _ b)).trans ?_
    split
    next same => rw [same]; rfl
    · rfl
  | bank b d =>
    refine ok.congr rfl rfl fun c => ?_
    refine (congrArg BankRec.links (State.reevaluated_bank _ _ c)).trans ?_
    split
    next same => rw [same, State.setBank_bank_self]
    next other => rw [State.setBank_bank, if_neg other]
  | removal b =>
    refine ok.congr rfl rfl fun c => ?_
    have bank : (s.removeBank b).bank c = _ := s.setBank_bank b c _
    rw [bank]
    split
    next same => rw [same]
    · rfl
  | setting n v conf range => exact ok.setting roles ((State.banksOk_iff.mp banks).1.configured conf) (Settings.InRange.put ok.settings range)
  | starts l conf role =>
    refine ok.entry roles (s.startUp_settings l) (State.takesOffice_lane (s.startUp_lanes l) (.inl role)) fun b => ?_
    rw [State.startUp_bank]
    exact s.bankBegun_links b
  | resumes l safe role =>
    exact ok.entry roles rfl (State.takesOffice_lane (t := s.resumeRun l) (e := s.expiry s.settings.quiet) rfl role) fun b => .inl rfl
  | restarts l =>
    refine ok.entry roles (s.restartPart_settings l) (fun m => .inr ?_) fun b => .inr ?_
    · rw [State.restartPart_lane]
      exact .restarted
    · rw [State.restartPart_bank]
      rfl

theorem State.afterReset_countsOk (power : PerLane PowerLine) : (State.afterReset power).CountsOk := by
  have range : Settings.default.InRange := fun n => by cases n <;> decide
  refine State.countsOk_iff.mpr ⟨range, fun l => ?_, fun b => BankRec.counts_of_fresh range ?_⟩
  · rw [State.afterReset_lane]
    exact .idle range ⟨rfl, rfl, rfl, rfl⟩ nofun nofun ⟨Nat.zero_le 7, fun _ => Nat.zero_lt_succ 6⟩
  · rw [State.afterReset_bank]
    rfl

end counts

/-- The laws of the counters are kept by every outcome of a request and by the engine. -/
theorem countsOk_kept : KeptWithRoles fun s => s.RolesOk ∧ s.BanksOk ∧ s.CountsOk where
  roles _ h := h.1
  asked _ _ ok h := ⟨h.rolesOk ok.1, h.banksOk ok.1 ok.2.1, h.countsOk ok.1 ok.2.1 ok.2.2⟩
  engine s d ok allowed engine part _ := by
    obtain ⟨k, engaged⟩ := engine.engaged (State.banksOk_iff.mp ok.2.1).1 allowed
    exact ⟨ok.1.engine part, engaged.banksOk ok.2.1, engaged.works.countsOk ok.2.2⟩
  reset power sampled :=
    ⟨State.afterReset_rolesOk power sampled, (State.afterReset_configured power).banksOk, State.afterReset_countsOk power⟩

/-- Settles O58. -/
theorem countsKept : Obligations.CountsKept := fun _ _ roles banks counts h =>
  (countsOk_kept.kept.step h ⟨roles, banks, counts⟩).2.2

/-! ## Points -/

section points
variable {s t : State} {l : Lane}

/-- In CONFIGURE each point is UNDEFINED or INERT, and that is all its law says. -/
theorem State.Configured.pointsFit_iff (h : s.Configured) :
    s.PointsFit ↔ ∀ p, s.point p = .blank ∨ ∃ d : PointDef, d.Ok ∧ s.point p = .inert d := by
  constructor
  · intro fit p
    have idle := h.unstarted (bankOf p)
    cases fit.place p with
    | blank eq => exact .inl eq
    | inert d ok eq => exact .inr ⟨d, ok, eq⟩
    | settled _ _ _ _ _ works | pending _ _ _ _ _ works | loading _ _ _ works => exact absurd idle works.not_idle
    | off _ _ _ _ _ disqualified => rw [disqualified] at idle; simp at idle
  · intro records
    refine ⟨fun b => ⟨fun i => ?_, fun x flight => ?_⟩, fun safe => ?_⟩
    · have out : (s.bank b).pendingSet[i] = false := by
        rw [(h.idle b).pendingSet]
        exact Vector.getElem_replicate i.isLt
      have free : ¬ (s.bank b).Loads i := BankRec.not_loads (h.idle b).exchange
      obtain blank | ⟨d, ok, inert⟩ := records (pointAt b i)
      · exact .blank blank out free
      · exact .inert d ok inert out free (h.unstarted b)
    · rw [(h.idle b).exchange] at flight
      cases flight
    · rw [h.mode] at safe
      cases safe

/-- A point has been defined or dropped in CONFIGURE. -/
theorem State.PointsFit.setPoint (points : s.PointsFit) (conf : s.Configured) (p : PointNo) (r : PointRec)
    (record : r = .blank ∨ ∃ d : PointDef, d.Ok ∧ r = .inert d) : ((s.setPoint p r).afterPointChange p).PointsFit := by
  refine (conf.setPoint p r).pointsFit_iff.mpr fun q => ?_
  have point : ((s.setPoint p r).afterPointChange p).point q = if q = p then r else s.point q := s.setPoint_point p q r
  rw [point]
  split
  · exact record
  · exact conf.pointsFit_iff.mp points q

theorem PointRec.started_place {r : PointRec} {c : BankRec} {i : SlotNo} (record : r = .blank ∨ ∃ d : PointDef, d.Ok ∧ r = .inert d)
    (out : c.pendingSet[i] = false) (idle : c.exchange = none) (warming : r.defn.isSome = true → c.state = .warming) :
    r.started.Placed c i := by
  obtain rfl | ⟨d, ok, rfl⟩ := record
  · exact .blank rfl out (BankRec.not_loads idle)
  · have state : c.state = .warming := warming rfl
    have same {e : PointDef} (he : (PointRec.inert d).started.defn = some e) : e = d := (Option.some.inj he).symm
    refine .pending ⟨fun e he => same he ▸ ok, rfl, rfl, fun e v he target => ?_, nofun, Nat.zero_le _⟩ rfl nofun
      (.inr (.inr (.inl state))) (BankRec.not_loads idle) (.inl state)
    obtain rfl := same he
    obtain rfl : e.safe = v := Option.some.inj target
    exact ⟨ok.1, ok.2.1⟩

theorem State.PointsFit.startUp (points : s.PointsFit) (conf : s.Configured) (l : Lane) (complete : s.missingBank = none) :
    (s.startUp l).PointsFit := by
  have records := conf.pointsFit_iff.mp points
  have bank := s.startUp_bank l
  have idle (b : BankNo) : ((s.startUp l).bank b).exchange = none := by
    rw [bank, State.bankBegun]
    split <;> exact (conf.idle b).exchange
  refine ⟨fun b => ⟨fun i => ?_, fun x flight => (nomatch (idle b).symm.trans flight)⟩, fun safe => ?_⟩
  · rw [State.row, State.startUp_point]
    refine PointRec.started_place (records _) ?_ (idle b) fun defined => ?_
    · have empty : ((s.startUp l).bank b).pendingSet = noSlots := by
        rw [bank, State.bankBegun]
        split
        · rfl
        · exact (conf.idle b).pendingSet
      rw [empty]
      exact Vector.getElem_replicate i.isLt
    · have owner := State.defined_of_complete complete defined
      rw [bankOf_pointAt] at owner
      rw [bank, State.bankBegun, if_pos ⟨owner, i, defined⟩]
      rfl
  · rw [State.startUp_mode] at safe
    cases safe

theorem State.PointsFit.restartPart (points : s.PointsFit) (conf : (s.restartPart l).Configured) : (s.restartPart l).PointsFit := by
  refine conf.pointsFit_iff.mpr fun p => ?_
  obtain ⟨definition, blank, -⟩ := (points.place p).pointOk
  rw [State.restartPart_point]
  cases defn : (s.point p).defn with
  | none =>
    rw [blank defn]
    exact .inl rfl
  | some d =>
    refine .inr ⟨d, definition d defn, ?_⟩
    rw [PointRec.restarted, PointRec.defined, defn]
    rfl

theorem Passes.pointsFit (h : Passes s t) (roles : s.RolesOk) (round : s.RoundOk) (banks : s.BanksOk) (points : s.PointsFit) :
    t.PointsFit := by
  obtain ⟨u, acts, -, -, -, ends⟩ := h
  have roles := (State.rolesOk_iff.mp roles).1
  have banks := (State.banksOk_iff.mp banks).1
  have points := acts.pointsFit roles (State.roundOk_iff.mp round).1 banks points
  have banks := (acts.banksFit roles banks).2
  obtain ⟨rfl, -⟩ | rfl := ends
  · exact points
  · have first := Works.serveLink .one u
    exact (Works.serveLink .two _).pointsFit (first.banksFit banks) (first.pointsFit banks points)

theorem Asked.pointsFit (h : Asked s t) (roles : s.RolesOk) (round : s.RoundOk) (banks : s.BanksOk) (points : s.PointsFit) :
    t.PointsFit := by
  have configured (conf : s.mode = .configure) : s.Configured := (State.banksOk_iff.mp banks).1.configured conf
  cases h with
  | passes h => exact h.pointsFit roles round banks points
  | point p d conf ok => exact points.setPoint (configured conf) p _ (.inr ⟨d, ok, rfl⟩)
  | drop p conf => exact points.setPoint (configured conf) p _ (.inl rfl)
  | bank b d conf range free =>
    exact ((configured conf).defineBank b d range free).pointsFit_iff.mpr ((configured conf).pointsFit_iff.mp points)
  | removal b conf => exact ((configured conf).removeBank b).pointsFit_iff.mpr ((configured conf).pointsFit_iff.mp points)
  | setting n v conf => exact points.congr id rfl rfl
  | starts l conf role complete => exact points.startUp (configured conf) l complete
  | resumes l => exact points.congr nofun rfl rfl
  | restarts l left => exact points.restartPart ((State.banksOk_iff.mp banks).1.restartPart left)

theorem State.pointsOk_of (banks : s.BanksOk) : s.PointsOk ↔ s.PointsFit := State.pointsOk_iff (State.banksOk_iff.mp banks).1

theorem State.afterReset_pointsOk (power : PerLane PowerLine) : (State.afterReset power).PointsOk :=
  (State.pointsOk_of (State.afterReset_configured power).banksOk).mpr
    ((State.afterReset_configured power).pointsFit_iff.mpr fun p => .inl (State.afterReset_point power p))

end points

/-- The laws of the points are kept by every outcome of a request and by the engine. -/
theorem pointsOk_kept : KeptWithRoles fun s => s.RolesOk ∧ s.RoundOk ∧ s.BanksOk ∧ s.PointsOk where
  roles _ h := h.1
  asked s t ok h := by
    obtain ⟨roles, round, banks, points⟩ := ok
    have after := h.banksOk roles banks
    exact ⟨h.rolesOk roles, h.roundOk roles round, after,
      (State.pointsOk_of after).mpr (h.pointsFit roles round banks ((State.pointsOk_of banks).mp points))⟩
  engine s d ok allowed engine part moves := by
    obtain ⟨roles, round, banks, points⟩ := ok
    have fit := (State.banksOk_iff.mp banks).1
    obtain ⟨k, engaged⟩ := engine.engaged fit allowed
    have after := engaged.banksOk banks
    exact ⟨roles.engine part, round.engine part moves.points, after,
      (State.pointsOk_of after).mpr (engaged.works.pointsFit fit ((State.pointsOk_of banks).mp points))⟩
  reset power sampled :=
    ⟨State.afterReset_rolesOk power sampled, State.afterReset_roundOk power, (State.afterReset_configured power).banksOk,
      State.afterReset_pointsOk power⟩

/-- Settles O59. -/
theorem pointsKept : Obligations.PointsKept := fun _ _ roles banks round points h =>
  (pointsOk_kept.kept.step h ⟨roles, round, banks, points⟩).2.2.2

/-- Settles O60. -/
theorem resetHoldsLaws : Obligations.ResetHoldsLaws :=
  ⟨rfl, fun power sampled => ⟨FaultLog.reset_ok, afterReset_digestOk power, State.afterReset_rolesOk power sampled,
    State.afterReset_roundOk power, (State.afterReset_configured power).banksOk, State.afterReset_countsOk power,
    State.afterReset_pointsOk power⟩⟩

end Sys2Proof.Machine
end

section
/-! Handlers do not look at the Lane Ports: what a request does is the same whatever the ports hold (chapter Lane Links). -/

namespace Sys2Proof.Machine

-- One proof after another: elaborated side by side, the proofs of the whole text need more memory than the check gives.
set_option Elab.async false

/-- The part with other Lane Ports. -/
def State.withPorts (s : State) (ps : PerLane LanePort) : State := { s with ports := ps }

theorem State.ite_withPorts {c : Prop} [Decidable c] {a b x y : State} {ps : PerLane LanePort}
    (yes : x = a.withPorts ps) (no : y = b.withPorts ps) : (if c then x else y) = (if c then a else b).withPorts ps := by
  split_ifs <;> assumption

section blind
variable (s : State) (ps : PerLane LanePort) (l : Lane)

/-! ## What a state says without its ports -/

theorem State.withPorts_mode : (s.withPorts ps).mode = s.mode := rfl
theorem State.withPorts_settings : (s.withPorts ps).settings = s.settings := rfl
theorem State.withPorts_session : (s.withPorts ps).session = s.session := rfl
theorem State.withPorts_digest : (s.withPorts ps).digest = s.digest := rfl
theorem State.withPorts_round : (s.withPorts ps).round = s.round := rfl
theorem State.withPorts_collecting : (s.withPorts ps).collecting = s.collecting := rfl
theorem State.withPorts_log : (s.withPorts ps).log = s.log := rfl
theorem State.withPorts_lane (m : Lane) : (s.withPorts ps).lane m = s.lane m := rfl
theorem State.withPorts_role (m : Lane) : (s.withPorts ps).role m = s.role m := rfl
theorem State.withPorts_keepsRun : (s.withPorts ps).keepsRun = s.keepsRun := rfl
theorem State.withPorts_endingCode (m : Lane) : (s.withPorts ps).endingCode m = s.endingCode m := rfl
theorem State.withPorts_link (k : LinkNo) : (s.withPorts ps).link k = s.link k := rfl
theorem State.withPorts_bank (b : BankNo) : (s.withPorts ps).bank b = s.bank b := rfl
theorem State.withPorts_point (p : PointNo) : (s.withPorts ps).point p = s.point p := rfl
theorem State.withPorts_choice (k : LinkNo) : (s.withPorts ps).choice k = s.choice k := rfl
theorem State.withPorts_heldBack (k : LinkNo) : (s.withPorts ps).heldBack k = s.heldBack k := rfl
theorem State.withPorts_ready (c : Collecting) : (s.withPorts ps).ready c = s.ready c := rfl
theorem State.withPorts_votes (c : Collecting) : (s.withPorts ps).votes c = s.votes c := rfl
theorem State.withPorts_findings (c : Collecting) (vs : Votes) : (s.withPorts ps).findings c vs = s.findings c vs := rfl
theorem State.withPorts_clash (b : BankNo) (address : Nat) : (s.withPorts ps).clash b address = s.clash b address := rfl
theorem State.withPorts_countDefined : (s.withPorts ps).countDefined = s.countDefined := rfl
theorem State.withPorts_missingBank : (s.withPorts ps).missingBank = s.missingBank := rfl
theorem State.withPorts_entryRefusal (d : Digest) : (s.withPorts ps).entryRefusal l d = s.entryRefusal l d := rfl
theorem State.withPorts_roundCheck (n : Nat) : (s.withPorts ps).roundCheck l n = s.roundCheck l n := rfl
theorem State.withPorts_faultsBody : (s.withPorts ps).faultsBody l = s.faultsBody l := rfl
theorem State.withPorts_pointGroup (p : PointNo) : (s.withPorts ps).pointGroup p = s.pointGroup p := rfl
theorem State.withPorts_bankGroup (b : BankNo) : (s.withPorts ps).bankGroup b = s.bankGroup b := rfl

theorem State.withPorts_pairsNamed (qs : List (Nat × Nat)) : (s.withPorts ps).pairsNamed qs = s.pairsNamed qs := by
  induction qs with
  | nil => rfl
  | cons q qs ih => simp only [State.pairsNamed, ih]

theorem State.withPorts_pairsDefined (qs : List (Nat × Nat)) : (s.withPorts ps).pairsDefined qs = s.pairsDefined qs := by
  induction qs with
  | nil => rfl
  | cons q qs ih => simp only [State.pairsDefined, State.withPorts_point, ih]

theorem State.withPorts_pairsInRange (qs : List (Nat × Nat)) : (s.withPorts ps).pairsInRange qs = s.pairsInRange qs := by
  induction qs with
  | nil => rfl
  | cons q qs ih => simp only [State.pairsInRange, State.withPorts_point, ih]

theorem State.withPorts_pairsRefusal (qs : List (Nat × Nat)) : (s.withPorts ps).pairsRefusal qs = s.pairsRefusal qs := by
  simp only [State.pairsRefusal, State.withPorts_pairsNamed, State.withPorts_pairsDefined, State.withPorts_pairsInRange]

/-! ## Operations -/

theorem State.withPorts_append (e : Event) : (s.withPorts ps).append e = (s.append e).withPorts ps := rfl
theorem State.withPorts_setLane (m : Lane) (r : LaneRec) : (s.withPorts ps).setLane m r = (s.setLane m r).withPorts ps := rfl
theorem State.withPorts_withdraw (m : Lane) : (s.withPorts ps).withdraw m = (s.withdraw m).withPorts ps := rfl
theorem State.withPorts_startApply (k : LinkNo) (b : BankNo) : (s.withPorts ps).startApply k b = (s.startApply k b).withPorts ps := rfl
theorem State.withPorts_startSurvey (k : LinkNo) (b : BankNo) :
    (s.withPorts ps).startSurvey k b = (s.startSurvey k b).withPorts ps := rfl
theorem State.withPorts_setLink (k : LinkNo) (r : LinkCtl) : (s.withPorts ps).setLink k r = (s.setLink k r).withPorts ps := rfl

theorem State.withPorts_startExchange (k : LinkNo) (b : BankNo) :
    (s.withPorts ps).startExchange k b = (s.startExchange k b).withPorts ps := by
  simp only [State.startExchange, State.withPorts_link, State.withPorts_setLink, State.withPorts_bank, State.withPorts_startApply,
    State.withPorts_startSurvey]
  exact State.ite_withPorts rfl rfl

theorem State.withPorts_serveLink (k : LinkNo) : (s.withPorts ps).serveLink k = (s.serveLink k).withPorts ps := by
  simp only [State.serveLink, State.withPorts_link, State.withPorts_heldBack, State.withPorts_choice, State.withPorts_startExchange]
  cases s.choice k <;> exact State.ite_withPorts rfl rfl

theorem State.withPorts_serveLinks : (s.withPorts ps).serveLinks = s.serveLinks.withPorts ps := by
  simp only [State.serveLinks, State.withPorts_serveLink]

theorem State.withPorts_assignControl : (s.withPorts ps).assignControl = s.assignControl.withPorts ps := by
  rw [State.assignControl_eq, State.assignControl_eq, show (s.withPorts ps).heir = s.heir from rfl]
  cases s.heir <;> rfl

theorem State.withPorts_dismiss : (s.withPorts ps).dismiss l = (s.dismiss l).withPorts ps := by
  simp only [State.dismiss, State.withPorts_role]
  exact State.ite_withPorts rfl rfl

theorem State.withPorts_dismissAll : (s.withPorts ps).dismissAll = s.dismissAll.withPorts ps := by
  simp only [State.dismissAll, State.withPorts_dismiss]

theorem State.withPorts_enterSafe (why : Code) : (s.withPorts ps).enterSafe l why = (s.enterSafe l why).withPorts ps := by
  have begun : ({ s.withPorts ps with mode := .safe, collecting := none } : State).dismissAll =
      ({ s with mode := .safe, collecting := none } : State).dismissAll.withPorts ps :=
    State.withPorts_dismissAll { s with mode := .safe, collecting := none } ps
  simp only [State.enterSafe_eq, begun]
  rfl

theorem State.withPorts_safeCheck (why : Code) : (s.withPorts ps).safeCheck l why = (s.safeCheck l why).withPorts ps := by
  simp only [State.safeCheck, State.withPorts_mode, State.withPorts_keepsRun, State.withPorts_enterSafe]
  exact State.ite_withPorts rfl rfl

theorem State.withPorts_exclude (cause : Cause) : (s.withPorts ps).exclude l cause = (s.exclude l cause).withPorts ps := rfl

theorem State.withPorts_suspend (cause : SuspendCause) : (s.withPorts ps).suspend l cause = (s.suspend l cause).withPorts ps := by
  simp only [State.suspend, State.withPorts_lane, State.withPorts_setLane, State.withPorts_settings, State.withPorts_exclude]
  exact State.ite_withPorts rfl rfl

theorem State.withPorts_departedInBatch : (s.withPorts ps).departedInBatch l = (s.departedInBatch l).withPorts ps := by
  simp only [State.departedInBatch, State.withPorts_withdraw, State.withPorts_assignControl, State.withPorts_endingCode,
    State.withPorts_safeCheck]

theorem State.withPorts_strikeInBatch : (s.withPorts ps).strikeInBatch l = (s.strikeInBatch l).withPorts ps := by
  simp only [State.strikeInBatch, State.withPorts_lane, State.withPorts_setLane, State.withPorts_settings, State.withPorts_suspend,
    State.withPorts_departedInBatch]
  exact State.ite_withPorts rfl rfl

theorem State.withPorts_probationClean (round : Nat) :
    (s.withPorts ps).probationClean round l = (s.probationClean round l).withPorts ps := by
  simp only [State.probationClean, State.withPorts_lane, State.withPorts_setLane, State.withPorts_settings, State.withPorts_append,
    State.withPorts_assignControl]
  exact State.ite_withPorts rfl rfl

theorem State.withPorts_probationFailed (round : Nat) (p : Option PointNo) :
    (s.withPorts ps).probationFailed round l p = (s.probationFailed round l p).withPorts ps := by
  simp only [State.probationFailed, State.withPorts_lane, State.withPorts_setLane, State.withPorts_settings, State.withPorts_append,
    State.withPorts_suspend, State.withPorts_withdraw]
  exact State.ite_withPorts rfl rfl

theorem State.withPorts_takeFinding (round : Nat) (f : Finding) :
    (s.withPorts ps).takeFinding round f = (s.takeFinding round f).withPorts ps := by
  cases f with
  | clean m => simp only [State.takeFinding, State.withPorts_role]; exact State.ite_withPorts rfl rfl
  | late | dissent | probClean | probFailed =>
    simp only [State.takeFinding, State.withPorts_role, State.withPorts_lane, State.withPorts_append, State.withPorts_strikeInBatch,
      State.withPorts_probationClean, State.withPorts_probationFailed]
    exact State.ite_withPorts rfl rfl

theorem State.withPorts_takeFindings (round : Nat) (fs : List Finding) :
    fs.foldl (State.takeFinding round) (s.withPorts ps) = (fs.foldl (State.takeFinding round) s).withPorts ps := by
  induction fs generalizing s with
  | nil => rfl
  | cons f fs ih =>
    rw [List.foldl_cons, List.foldl_cons, State.withPorts_takeFinding]
    exact ih _

theorem State.withPorts_appendOutcome (code : Code) (qs : List PointNo) :
    (s.withPorts ps).appendOutcome code qs = (s.appendOutcome code qs).withPorts ps := by
  cases qs <;> rfl

theorem State.withPorts_updatePoints (f : PointNo → PointRec → Bool → PointRec × Bool) :
    (s.withPorts ps).updatePoints f = (s.updatePoints f).withPorts ps := rfl

theorem State.withPorts_closeVotes (c : Collecting) (cause : CloseCause) (vs : Votes) :
    (s.withPorts ps).closeVotes c cause vs = (s.closeVotes c cause vs).withPorts ps := by
  simp only [State.closeVotes, State.withPorts_round, State.withPorts_updatePoints, State.withPorts_appendOutcome]
  rfl

theorem State.withPorts_closeRound (c : Collecting) (cause : CloseCause) :
    (s.withPorts ps).closeRound c cause = (s.closeRound c cause).withPorts ps := by
  simp only [State.closeRound, State.withPorts_votes, State.withPorts_findings, State.withPorts_round, State.withPorts_closeVotes,
    State.withPorts_takeFindings]

theorem State.withPorts_closeIfReady (cause : CloseCause) : (s.withPorts ps).closeIfReady cause = (s.closeIfReady cause).withPorts ps := by
  simp only [State.closeIfReady, State.withPorts_collecting, State.withPorts_ready, State.withPorts_closeRound]
  cases s.collecting with
  | none => rfl
  | some c => dsimp only; exact State.ite_withPorts rfl rfl

theorem State.withPorts_departed : (s.withPorts ps).departed l = (s.departed l).withPorts ps := by
  simp only [State.departed, State.withPorts_withdraw, State.withPorts_assignControl, State.withPorts_closeIfReady,
    State.withPorts_endingCode, State.withPorts_safeCheck, State.withPorts_serveLinks]

theorem State.withPorts_vacated (was : Role) : (s.withPorts ps).vacated l was = (s.vacated l was).withPorts ps := by
  simp only [State.vacated, State.withPorts_departed, State.withPorts_withdraw]
  exact State.ite_withPorts rfl rfl

end blind

/-! ## Requests -/

/-- An answer given whatever the ports hold. -/
def Blind (f : State → State × List Text) : Prop := ∀ s ps, f (s.withPorts ps) = ((f s).1.withPorts ps, (f s).2)

theorem answers_ite {c : Prop} [Decidable c] {a b x y : State × List Text} {ps : PerLane LanePort}
    (yes : x = (a.1.withPorts ps, a.2)) (no : y = (b.1.withPorts ps, b.2)) :
    (if c then x else y) = ((if c then a else b).1.withPorts ps, (if c then a else b).2) := by
  split_ifs <;> assumption

theorem answers_dite {c : Prop} [Decidable c] {a x : c → State × List Text} {b y : ¬ c → State × List Text} {ps : PerLane LanePort}
    (yes : ∀ h, x h = ((a h).1.withPorts ps, (a h).2)) (no : ∀ h, y h = ((b h).1.withPorts ps, (b h).2)) :
    (if h : c then x h else y h) = ((if h : c then a h else b h).1.withPorts ps, (if h : c then a h else b h).2) := by
  split_ifs with h
  · exact yes h
  · exact no h

section requests
variable (fields : List Text) (l : Lane)

theorem Blind.plainReport {body : State → List Text} (same : ∀ s ps, body (s.withPorts ps) = body s) :
    Blind fun s => plainReport fields s (body s) := by
  intro s ps
  simp only [Machine.plainReport, same]
  exact answers_ite rfl rfl

theorem Blind.guarded {owner : State → State × List Text} (h : Blind owner) : Blind fun s => guarded l s owner := by
  intro s ps
  simp only [Machine.guarded, State.withPorts_mode, State.withPorts_session, h s ps]
  exact answers_ite rfl (answers_ite rfl rfl)

theorem Blind.handlePoint : Blind (handlePoint fields) := by
  intro s ps
  simp only [Machine.handlePoint]
  cases pointForm fields with
  | error => rfl
  | ok form => dsimp only; cases pointRange form <;> rfl

theorem Blind.handleDrop : Blind (handleDrop fields) := by
  intro s ps
  simp only [Machine.handleDrop, State.withPorts_point]
  cases dropForm fields with
  | error => rfl
  | ok n => dsimp only; exact answers_dite (fun _ => answers_ite rfl rfl) fun _ => rfl

theorem Blind.handleBank : Blind (handleBank fields) := by
  intro s ps
  simp only [Machine.handleBank, Machine.handleBankDefine, Machine.handleBankRemove, State.withPorts_clash, State.withPorts_bank]
  cases bankForm fields with
  | error => rfl
  | ok form =>
    cases form with
    | define b address link =>
      dsimp only
      split_ifs with low
      any_goals rfl
      all_goals cases s.clash ⟨b, low⟩ address <;> rfl
    | remove b => exact answers_dite (fun _ => answers_ite rfl rfl) fun _ => rfl

theorem Blind.handleSet : Blind (handleSet fields) := by
  intro s ps
  simp only [Machine.handleSet]
  cases setForm fields with
  | error => rfl
  | ok p => dsimp only; exact answers_ite rfl rfl

theorem Blind.handleStart : Blind (handleStart l fields) := by
  intro s ps
  simp only [Machine.handleStart, State.withPorts_lane, State.withPorts_digest, State.withPorts_countDefined, State.withPorts_missingBank]
  cases digestForm fields with
  | error => rfl
  | ok d => cases s.missingBank <;> exact answers_ite rfl (answers_ite rfl (answers_ite rfl rfl))

theorem Blind.handleOpen : Blind (handleOpen l fields) := by
  intro s ps
  simp only [Machine.handleOpen, State.withPorts_mode, State.withPorts_lane, State.withPorts_session]
  exact answers_ite rfl (answers_ite rfl (answers_ite rfl (answers_ite rfl rfl)))

theorem Blind.handleClose : Blind (handleClose l fields) := by
  intro s ps
  simp only [Machine.handleClose, State.withPorts_mode, State.withPorts_session]
  exact answers_ite rfl (answers_ite rfl (answers_ite rfl rfl))

theorem Blind.handleResume : Blind (handleResume l fields) := by
  intro s ps
  simp only [Machine.handleResume, State.withPorts_mode, State.withPorts_entryRefusal]
  cases digestForm fields with
  | error => rfl
  | ok d => dsimp only; cases s.entryRefusal l d <;> dsimp only <;> exact answers_ite rfl rfl

theorem Blind.handleRestart : Blind (handleRestart l fields) := by
  intro s ps
  simp only [Machine.handleRestart, State.withPorts_mode, State.withPorts_role, State.withPorts_lane]
  refine answers_ite rfl ?_
  cases s.mode with
  | configure => rfl
  | run | safe => exact answers_ite rfl rfl

theorem Blind.handleStage : Blind (handleStage l fields) := by
  intro s ps
  simp only [Machine.handleStage, State.withPorts_roundCheck, State.withPorts_pairsRefusal]
  cases stageForm fields with
  | error => rfl
  | ok pair =>
    dsimp only
    cases s.roundCheck l pair.1 with
    | error => rfl
    | ok c => dsimp only; cases s.pairsRefusal pair.2 <;> rfl

theorem Blind.handleSeal : Blind (handleSeal l fields) := by
  intro s ps
  simp only [Machine.handleSeal, State.withPorts_roundCheck]
  cases sealForm fields with
  | error => rfl
  | ok round =>
    dsimp only
    cases s.roundCheck l round with
    | error => rfl
    | ok c =>
      have collects : ({ s.withPorts ps with collecting := some (c.seal l (s.expiry s.settings.roundtime)) } : State) =
        ({ s with collecting := some (c.seal l (s.expiry s.settings.roundtime)) } : State).withPorts ps := rfl
      have expiry : (s.withPorts ps).expiry (s.withPorts ps).settings.roundtime = s.expiry s.settings.roundtime := rfl
      simp only [State.sealRound, expiry, collects, State.withPorts_ready, State.withPorts_closeRound, State.withPorts_serveLinks]
      exact answers_ite rfl rfl

theorem Blind.handleJoin : Blind (handleJoin l fields) := by
  intro s ps
  simp only [Machine.handleJoin, State.withPorts_mode, State.withPorts_entryRefusal]
  cases digestForm fields with
  | error => rfl
  | ok d => dsimp only; cases s.entryRefusal l d <;> dsimp only <;> exact answers_ite rfl rfl

theorem Blind.handleLeave : Blind (handleLeave l fields) := by
  intro s ps
  have left : (s.withPorts ps).leaveVote l = (s.leaveVote l).withPorts ps := rfl
  simp only [Machine.handleLeave, State.withPorts_role, left, State.withPorts_vacated]
  exact answers_ite rfl (answers_ite rfl rfl)

theorem Blind.handleHandover : Blind (handleHandover l fields) := by
  intro s ps
  simp only [Machine.handleHandover, State.withPorts_mode, State.withPorts_role]
  cases handoverForm fields with
  | error => rfl
  | ok t => dsimp only; exact answers_ite rfl (answers_ite rfl (answers_ite rfl rfl))

theorem State.withPorts_returnToVote (s : State) (ps : PerLane LanePort) :
    (s.withPorts ps).returnToVote l = (s.returnToVote l).withPorts ps := by
  have now : (s.withPorts ps).now = s.now := rfl
  have expiry (n : Nat) : (s.withPorts ps).expiry n = s.expiry n := rfl
  simp only [State.returnToVote, State.withPorts_lane, now, expiry, State.withPorts_settings, State.withPorts_round,
    State.withPorts_setLane, State.withPorts_append, State.withPorts_assignControl]

theorem Blind.handleReturn : Blind (handleReturn l fields) := by
  intro s ps
  simp only [Machine.handleReturn, State.withPorts_role, State.withPorts_lane, State.withPorts_digest, State.withPorts_returnToVote,
    State.withPorts_round]
  cases digestForm fields with
  | error => rfl
  | ok d => dsimp only; exact answers_ite rfl (answers_ite rfl (answers_ite rfl rfl))

theorem Blind.handlePoints : Blind (handlePoints fields) := by
  intro s ps
  simp only [Machine.handlePoints, State.withPorts_pointGroup]
  cases runForm fields with
  | error => rfl
  | ok run => dsimp only; exact answers_ite rfl (answers_ite rfl rfl)

theorem Blind.handleBanks : Blind (handleBanks fields) := by
  intro s ps
  simp only [Machine.handleBanks, State.withPorts_bankGroup]
  cases runForm fields with
  | error => rfl
  | ok run => dsimp only; exact answers_ite rfl (answers_ite rfl rfl)

theorem Blind.handleFaults : Blind (handleFaults l fields) := by
  intro s ps
  simp only [Machine.handleFaults, State.withPorts_faultsBody]
  exact answers_ite rfl rfl

theorem Blind.handleAck : Blind (handleAck l fields) := by
  intro s ps
  simp only [Machine.handleAck, State.withPorts_log]
  cases ackForm fields with
  | error => rfl
  | ok n =>
    dsimp only
    generalize ((s.log.ahead l).find? fun r => decide (r.serial.toNat = n)) = found
    cases found <;> rfl

/-- No request looks at the ports. -/
theorem Blind.handleVerb (v : Verb) : Blind (handleVerb v l fields) := by
  cases v
  case point => exact .guarded l (.handlePoint fields)
  case drop => exact .guarded l (.handleDrop fields)
  case bank => exact .guarded l (.handleBank fields)
  case openSession => exact .handleOpen fields l
  case closeSession => exact .handleClose fields l
  case setSetting => exact .guarded l (.handleSet fields)
  case start => exact .guarded l (.handleStart fields l)
  case resume => exact .handleResume fields l
  case restart => exact .handleRestart fields l
  case stage => exact .handleStage fields l
  case join => exact .handleJoin fields l
  case leave => exact .handleLeave fields l
  case handover => exact .handleHandover fields l
  case returnLane => exact .handleReturn fields l
  case status => exact .plainReport fields (body := State.statusBody) fun _ _ => rfl
  case lanes => exact .plainReport fields (body := State.lanesBody) fun _ _ => rfl
  case points => exact .handlePoints fields
  case banks => exact .handleBanks fields
  case round => exact .plainReport fields (body := State.roundBody) fun _ _ => rfl
  case digest => exact .plainReport fields (body := fun s => [asc "OK", asc "DIGEST", digestText s.digest]) fun _ _ => rfl
  case faults => exact .handleFaults fields l
  case ack => exact .handleAck fields l
  -- SEAL is the last case left: its name is a keyword.
  next => exact .handleSeal fields l

/-- Nor does the dispatch of a line. -/
theorem Blind.dispatch (req : Request) : Blind (dispatch l req) := by
  intro s ps
  simp only [Machine.dispatch, State.withPorts_role]
  cases readVerb req.verb with
  | none => rfl
  | some v =>
    exact answers_ite rfl (Blind.handleVerb req.fields l v s ps)

end requests

end Sys2Proof.Machine
end

section
/-! The take of a waiting line at the end of a reply (chapter Lane Links). -/

namespace Sys2Proof.Machine

-- One proof after another: elaborated side by side, the proofs of the whole text need more memory than the check gives.
set_option Elab.async false

theorem Blind.ports {f : State → State × List Text} (blind : Blind f) (s : State) : (f s).1.ports = s.ports := by
  have same : f s = ((f s).1.withPorts s.ports, (f s).2) := blind s s.ports
  rw [same]
  rfl

theorem Blind.setPort {f : State → State × List Text} (blind : Blind f) (s : State) (l : Lane) (r : LanePort) :
    f (s.setPort l r) = ((f s).1.setPort l r, (f s).2) := by
  rw [State.setPort, State.setPort, blind.ports s]
  exact blind s _

section take
variable (s : State) (l : Lane) (req : Request)

theorem State.setPort_noteTaken (r : LanePort) : (s.setPort l r).noteTaken l = (s.noteTaken l).setPort l r := by
  rw [State.noteTaken_eq, State.noteTaken_eq]
  rfl

theorem State.setPort_reply (r : LanePort) (q : Byte) (body : List Text) :
    (s.setPort l r).reply l q body = s.setPort l { r with sending := some { seq := q, body, unread := s.log.unread l } } := by
  rw [State.reply, State.setPort_setPort, State.setPort_port_self]
  rfl

/-- What the execution of a line leaves, whatever its port holds (R160). -/
theorem State.setPort_execute (r : LanePort) : (s.setPort l r).execute l req = (dispatch l req s).1.setPort l { r with
    expected := some (req.seq + 1#8), stored := some { line := req.text, body := (dispatch l req s).2 },
    sending := some { seq := req.seq, body := (dispatch l req s).2, unread := (dispatch l req s).1.log.unread l } } := by
  rw [State.execute, State.setPort_setPort, State.setPort_port_self, (Blind.dispatch l req).setPort]
  dsimp only
  rw [State.setPort_setPort, State.setPort_port_self, State.setPort_reply]

theorem LanePort.decideSeq_congr {r p : LanePort} (expected : r.expected = p.expected) (stored : r.stored = p.stored) :
    r.decideSeq req = p.decideSeq req := by
  simp only [LanePort.decideSeq, expected, stored]

/-- The take of a line answers it and leaves the line buffers of its port alone, by the port's numbering and nothing else (R160). -/
theorem State.take_buffers (p : LanePort) : ∃ (t : State) (e : Option Byte) (k : Option Stored) (m : Reply),
    ∀ r : LanePort, r.expected = p.expected → r.stored = p.stored →
      (s.setPort l r).take l req = t.setPort l { r with expected := e, stored := k, sending := some m } := by
  have taken (r : LanePort) (expected : r.expected = p.expected) (stored : r.stored = p.stored) :
      (s.setPort l r).take l req = match p.decideSeq req with
        | .goesOn => ((s.noteTaken l).setPort l r).execute l req
        | .resend body => ((s.noteTaken l).setPort l r).reply l req.seq body
        | .outOfSequence => ((s.noteTaken l).setPort l r).reply l req.seq p.noSeq := by
    simp only [State.take, State.setPort_noteTaken, State.setPort_port_self, LanePort.decideSeq_congr req expected stored,
      LanePort.noSeq, expected] <;> rfl
  have replied (body : List Text) (r : LanePort) (expected : r.expected = p.expected) (stored : r.stored = p.stored) :
      ((s.noteTaken l).setPort l r).reply l req.seq body = (s.noteTaken l).setPort l { r with
        expected := p.expected, stored := p.stored,
        sending := some { seq := req.seq, body, unread := (s.noteTaken l).log.unread l } } := by
    rw [State.setPort_reply, ← expected, ← stored]
  cases decided : p.decideSeq req <;> simp only [decided] at taken
  case goesOn => exact ⟨_, _, _, _, fun r expected stored => by rw [taken r expected stored, State.setPort_execute]⟩
  case resend body => exact ⟨_, _, _, _, fun r e k => (taken r e k).trans (replied body r e k)⟩
  case outOfSequence => exact ⟨_, _, _, _, fun r e k => (taken r e k).trans (replied p.noSeq r e k)⟩

end take

/-! ## O48 -/

/-- Settles O48: a take does not look at the line buffers, so the oldest line of a queue is handled as one that finds them empty. -/
theorem replyEndTakesNext : Obligations.ReplyEndTakesNext := by
  refine ⟨?joins, fun s dt l awake sending => ⟨?idles, ?takes⟩⟩
  case joins =>
    intro s dt l q c text verb fields awake sends idle kept room busy
    rw [exec_sends awake idle kept room sends, State.acceptLine, if_neg]
    · rfl
    · rintro ⟨empty, silent⟩
      obtain waits | sending := busy
      · exact waits empty
      · rw [State.advance_port] at silent
        simp [silent] at sending
  all_goals
    have ends : exec (.replyEnd dt l) s = .next ((s.advance dt).replyEnds l) := exec_replyEnd dt l awake
    rw [State.replyEnds, State.advance_port, if_pos sending] at ends
  case idles =>
    intro empty
    rw [empty] at ends
    exact ends
  case takes =>
    intro c text verb q fields rest sends queue
    rw [queue] at ends
    obtain ⟨t, e, k, m, taken⟩ := State.take_buffers (s.advance dt) l { text, seq := q, verb, fields } (s.port l)
    have listens : (s.setPort l { s.port l with queue := [], sending := none, assembling := [], dropping := false }).Listens l := by
      refine ⟨awake, ?_⟩
      rw [State.setPort_port_self]
      exact ⟨rfl, rfl, rfl, rfl⟩
    refine ⟨_, (exec_sends_take listens sends).trans (congrArg _ (taken _ rfl rfl)), ?_, ?_⟩
    · rw [State.setPort_port_self]
      rfl
    · have waiting := taken { s.port l with sending := none, queue := rest } rfl rfl
      refine ends.trans (congrArg _ (waiting.trans ?_))
      rw [State.setPort_port_self]
      exact (State.setPort_setPort ..).symm

end Sys2Proof.Machine
end
